-- ==== Sys2Proof/Word.lean ====
section
/-! DEFINITION. The two word types of the FG416: bytes, and the 16-bit numbers of the three byte formats (R185). -/

namespace Sys2Proof

/-- A byte on either segment. -/
abbrev Byte := BitVec 8

/-- A word address, a sequence number or a page number field: 16 bits (R185). -/
abbrev Word := BitVec 16

/-- The 7-bit device address of a device byte (R185: stored as its 7-bit value). -/
abbrev DevAddr := BitVec 7

end Sys2Proof
end

