-- ==== Sys2Proof/Syntax.lean ====
section
/-! DEFINITION. The commands of the FG416: one constructor per row of spec/opcode_table.json, with the operand
that the event brings with it. -/

namespace Sys2Proof

/-- The events that reach the part, each whole and indivisible (95_what_each_step_holds). -/
inductive Instr where
  -- reset
  /-- RESET (R173). -/
  | reset
  /-- RESET_RELEASE (R173): the strap levels sampled at the release (R1). -/
  | resetRelease (ha : BitVec 3) (sb : Bool)
  -- conditions on the upstream segment
  /-- START (R118). -/
  | start
  /-- REPEATED_START (R133). -/
  | repeatedStart
  /-- STOP (R132). -/
  | stop
  /-- MISPLACED_CONDITION (R134): a misplaced start (true) or a misplaced stop (false). -/
  | misplacedCondition (isStart : Bool)
  -- bytes on the upstream segment
  /-- DEVICE_BYTE (R120): the eight bits, the direction bit lowest (1 is read). -/
  | deviceByte (b : Byte)
  /-- WORD_ADDRESS_BYTE (R121). -/
  | wordAddressByte (b : Byte)
  /-- DATA_BYTE (R125). -/
  | dataByte (b : Byte)
  /-- CONTROLLER_ANSWER (R89): ack (true) or NAK (false). -/
  | controllerAnswer (ack : Bool)
  -- timers
  /-- HOLD_TIMER_EXPIRY_A (R128). -/
  | holdTimerExpiryA
  /-- HOLD_TIMER_EXPIRY_B (R129). -/
  | holdTimerExpiryB
  /-- IDLE_TIMER_EXPIRY (R131). -/
  | idleTimerExpiry
  -- marks
  /-- DISCARD, mark 00h (R102). -/
  | discard
  /-- SEAL, marks 01h to EFh, with the mark as tag (R103). -/
  | seal (tag : Byte)
  /-- RETRY, mark F0h (R104). -/
  | retry
  /-- PAUSE, mark F1h (R105). -/
  | pause
  /-- RESUME, mark F2h (R65). -/
  | resume
  /-- CLEAR, mark F3h (R106). -/
  | clear
  /-- INVALID_MARK, marks F4h to FFh (R107). -/
  | invalidMark (value : Byte)
  -- polls
  /-- POLL_ATTEMPT_ACKNOWLEDGED (R155). -/
  | pollAttemptAcknowledged
  /-- POLL_ATTEMPT_NAK (R155): the age of the poll at the attempt's stop, in microseconds. -/
  | pollAttemptNak (age : Nat)
  /-- POLL_INTERVAL_ELAPSED (R155). -/
  | pollIntervalElapsed
  /-- POLL_EXPIRED (R155). -/
  | pollExpired
  -- downstream frames
  /-- WRITE_FRAME_SENT (R148). -/
  | writeFrameSent
  /-- FRAME_REFUSED (R59). -/
  | frameRefused
  /-- READ_FRAME_REFUSED (R60). -/
  | readFrameRefused
  /-- VERIFY_READ_DONE (R53): the bytes read back. -/
  | verifyReadDone (bytes : List Byte)
  /-- SETUP_READ_DONE (R8): the 128 bytes of the setup area. -/
  | setupReadDone (bytes : List Byte)
  /-- SCAN_HEADER_READ_DONE (R79): the 16 bytes of one ring page's header. -/
  | scanHeaderReadDone (bytes : List Byte)
  /-- SCAN_RECORD_READ_DONE (R80): the bytes of one candidate record. -/
  | scanRecordReadDone (bytes : List Byte)
  -- proxy reads and relays
  /-- READ_HEADER_DONE (R88): all five answers are acks (true), or one is a NAK (false). -/
  | readHeaderDone (ack : Bool)
  /-- MEMORY_BYTE_HELD (R89): the byte clocked out of the memory. -/
  | memoryByteHeld (b : Byte)
  /-- RELAY_ANSWER (R142): the memory's answer to the relayed byte. -/
  | relayAnswer (ack : Bool)
  /-- RELAY_READ_BYTE (R143): the byte clocked out of the relayed memory. -/
  | relayReadByte (b : Byte)
  -- bus health
  /-- STUCK_BUS_DETECTED (R157). -/
  | stuckBusDetected
  /-- BUS_CLEAR_ATTEMPT_END (R158): the attempt succeeded (true) or failed (false). -/
  | busClearAttemptEnd (success : Bool)
  -- the setup unit's own steps
  /-- RELOAD_READ_REQUEST (R16). -/
  | reloadReadRequest
  /-- SETUP_SWAP (R18). -/
  | setupSwap
  deriving DecidableEq, Repr

end Sys2Proof
end

