-- ==== Sys2Proof/Config.lean ====
section
/-! DEFINITION. What the FG416 fixes for every part, and the one free value. -/

namespace Sys2Proof.Config

/-- Bytes of the data pool (R22). -/
def poolSize : Nat := 1024
/-- Entry descriptors (R22). -/
def descriptorCount : Nat := 48
/-- Sealed groups the queue can hold (R44). -/
def sealedMax : Nat := 3
/-- Journal passes a group may begin before it halts (R54). -/
def passMax : Nat := 3
/-- Attempts of one frame or read (R8, R59, R60, R83). -/
def attemptMax : Nat := 3
/-- Upstream grants in a row while an internal request waits (R151). -/
def fairnessMax : Nat := 8
/-- Detections an operation may make before BUS_STUCK (R157). -/
def detectionMax : Nat := 3
/-- Attempts of one bus clear (R158). -/
def clearMax : Nat := 3
/-- Default limits in milliseconds (R3). -/
def defaultHold : Nat := 25
def defaultPoll : Nat := 20
def defaultIdle : Nat := 50
/-- The least number of bytes a ring may hold (R12). -/
def ringMin : Nat := 1232
/-- Bytes of the setup area and of the control window (R1). -/
def areaSize : Nat := 128
/-- Bytes of the status record (R114). -/
def statusSize : Nat := 32
/-- Bytes of a journal record's header (R71). -/
def headerSize : Nat := 16
/-- The capacity the home device is taken to have while UNCONFIGURED (R7). -/
def unconfiguredCapacity : Nat := 65536

/-- FREE VALUE (R152, log 7). When a request is placed at an operation boundary, either the request (true) or the
boundary (false) is taken first; the spec fixes neither. The step applies it to State.freeIndex. -/
opaque requestFirst : Nat → Bool

end Sys2Proof.Config
end

