-- ==== Sys2Proof/Machine/State.lean ====
section
/-! DEFINITION. The state of the FG416 as plain data, block by block, and its value at reset. -/

namespace Sys2Proof.Machine

/-! ## Setup unit (chapter 1, R175) -/

/-- The sampled strap pins (R1). -/
structure Straps where
  ha : BitVec 3
  sb : Bool
  deriving DecidableEq, Repr

/-- The configuration state (R2, R3). -/
inductive ConfigState where
  | unconfigured
  | configured
  deriving DecidableEq, Repr

/-- The reject reasons in the order of their codes (R9, section 12.4). -/
inductive Reject where
  | none | noAnswer | badMagic | badCrc | badVersion | badDevice | badRegion | badRing | badLimit | overlap
  deriving DecidableEq, Repr

/-- Downstream speed (R2, R156). -/
inductive Speed where
  | khz100
  | khz400
  deriving DecidableEq, Repr

/-- One entry of the device table (R2). -/
structure Device where
  addr : DevAddr
  capacity : Nat
  pageSize : Nat
  deriving DecidableEq, Repr

/-- A run of whole pages of one device: a region or the ring location (R2). -/
structure PageRange where
  dev : Nat
  firstPage : Nat
  pageCount : Nat
  deriving DecidableEq, Repr

/-- The tables in force (R2, R3). -/
structure Tables where
  devices : List Device
  regions : List PageRange
  ring : Option PageRange
  holdLimit : Nat
  pollLimit : Nat
  idleLimit : Nat
  speed : Speed
  generation : Byte
  deriving DecidableEq, Repr

/-- The defaults held while UNCONFIGURED (R3). -/
def Tables.defaults : Tables where
  devices := []
  regions := []
  ring := none
  holdLimit := Config.defaultHold
  pollLimit := Config.defaultPoll
  idleLimit := Config.defaultIdle
  speed := .khz100
  generation := 0x00

/-- The reload state (section 1.5). RELOAD_PENDING is set exactly when it is not `none`. -/
inductive ReloadState where
  | none
  | waitRead
  | reading
  | waitSwap
  deriving DecidableEq, Repr

/-- How far a load attempt made while UNCONFIGURED has come (R20). -/
inductive LoadAttempt where
  /-- no attempt requested -/
  | none
  /-- requested at a relayed frame's stop; the home device is being polled -/
  | awaitPoll
  /-- its setup read waits for the grant -/
  | requested
  /-- its setup read has been granted -/
  | granted
  deriving DecidableEq, Repr

/-- The phase of configuration entry (R175). -/
inductive EntryPhase where
  | none
  | polling
  | loading
  | scanning
  | replaying
  | reloading
  deriving DecidableEq, Repr

structure Setup where
  straps : Straps
  config : ConfigState
  reject : Reject
  tables : Tables
  reload : ReloadState
  /-- the holding copy (R8, R16) -/
  holding : Option (List Byte)
  /-- the load buffer used while UNCONFIGURED (R8) -/
  loadBuffer : Option (List Byte)
  /-- in READING: a retirement has made the bytes being read stale (R19) -/
  stale : Bool
  attempt : LoadAttempt
  /-- a load request kept for one further attempt (R20) -/
  kept : Bool
  readAttempts : Nat
  /-- in WAIT_READ: a load is under way whose last read was refused, and its repeat is still to be requested (R8, R16,
  R170; log 30) -/
  repeatDue : Bool
  phase : EntryPhase
  deriving DecidableEq, Repr

/-! ## Staging store and group queue (chapters 2 and 3) -/

/-- One contiguous run of staged bytes for one device (R24). -/
structure Entry where
  dev : Nat
  start : Word
  data : List Byte
  deriving DecidableEq, Repr

/-- A start address and a contiguous sequence of bytes (R32, R136). -/
structure Run where
  start : Word
  data : List Byte
  deriving DecidableEq, Repr

/-- The copy of a memory's page buffer for one frame (R26, R137): for each position the byte written there. -/
structure PageImage where
  base : Nat
  startOff : Nat
  cells : List (Option Byte)
  counter : Nat
  wrapped : Bool
  deriving DecidableEq, Repr

/-- The provisional image of the staged frame in progress (R26). It holds one descriptor, or two (R28). -/
structure Image where
  dev : Nat
  page : PageImage
  second : Bool
  deriving DecidableEq, Repr

/-- Group states (R42, R43); a removed group has no record. -/
inductive GroupState where
  | opn | sealed | journaling | verifying | committing | applying | retiring
  deriving DecidableEq, Repr

/-- First ring page and page count of a record (R42, R69). -/
structure Placement where
  first : Nat
  count : Nat
  deriving DecidableEq, Repr

/-- A group record (R42). Tag and sequence number are absent while OPEN. The byte total is the sum of the entry
lengths. -/
structure Group where
  state : GroupState
  tag : Option Byte
  seq : Option Word
  entries : List Entry
  placement : Option Placement
  progress : Nat
  passes : Nat
  touchesSetup : Bool
  deriving DecidableEq, Repr

/-- A new OPEN group (R44, R46). -/
def Group.empty : Group where
  state := .opn
  tag := none
  seq := none
  entries := []
  placement := none
  progress := 0
  passes := 0
  touchesSetup := false

/-- The staging store beside the groups' entries: the image, and the load group claims not yet taken (R39). -/
structure Store where
  image : Option Image
  claims : List Group
  deriving DecidableEq, Repr

/-- The OPEN group and the sealed groups, oldest first (R44), and the LOST condition (R29). -/
structure GroupQueue where
  openGroup : Option Group
  sealed : List Group
  lost : Bool
  deriving DecidableEq, Repr

/-! ## Commit engine and journal unit (chapters 3 and 4) -/

/-- The five phases of a commit (R49). -/
inductive Phase where
  | journal | verify | commit | apply | retire
  deriving DecidableEq, Repr

/-- The engine states (R49). -/
inductive EngineState where
  | idle
  | phase (p : Phase)
  | paused
  | halted
  deriving DecidableEq, Repr

/-- The step to be run next, as a paused or halted engine remembers it (R49, R54, R64). -/
inductive NextStep where
  /-- IDLE: start the oldest sealed group if there is one -/
  | idle
  /-- a journal pass about to begin -/
  | freshPass
  /-- the phase and step pointer -/
  | step (p : Phase) (pointer : Nat)
  deriving DecidableEq, Repr

/-- Fault codes in the order of their values (R49, section 10.1). -/
inductive FaultCode where
  | none | pollTimeout | writeRefused | verifyFailed | busStuck | deviceFaulted | readRefused
  deriving DecidableEq, Repr

structure Engine where
  state : EngineState
  pointer : Nat
  attempts : Nat
  pauseRequested : Bool
  remembered : Option NextStep
  faultCode : FaultCode
  faultDevice : Option Nat
  deriving DecidableEq, Repr

/-- What the whole read of a candidate gave (R80). -/
inductive Verdict where
  | unread
  | failed
  | passed (items : List Entry)
  deriving DecidableEq, Repr

/-- A ring page whose header fits the ring (R79). -/
structure Candidate where
  offset : Nat
  header : List Byte
  verdict : Verdict
  deriving DecidableEq, Repr

/-- The read the ring scan is making (R79, R80). -/
inductive ScanStage where
  /-- the header of the page at this ring offset -/
  | headers (offset : Nat)
  /-- the whole record of the candidate at this ring offset -/
  | record (offset : Nat)
  deriving DecidableEq, Repr

structure Scan where
  stage : ScanStage
  attempts : Nat
  cands : List Candidate
  deriving DecidableEq, Repr

/-- The journal unit (R69); `scan` while the ring scan runs. -/
structure Journal where
  head : Nat
  nextSeq : Word
  lastSeq : Word
  lastTag : Byte
  live : Option Placement
  scan : Option Scan
  deriving DecidableEq, Repr

/-! ## Read service and forward queue (chapters 5 and 8) -/

/-- Phases of a READ frame (R85). -/
inductive ReadPhase where
  | none | requested | opening | streaming | drained | filling | dead
  deriving DecidableEq, Repr

structure ReadService where
  dev : Nat
  phase : ReadPhase
  snapshot : Option (List Byte)
  deriving DecidableEq, Repr

/-- One slot of the forward queue (R136). -/
inductive Slot where
  | free
  | collecting (dev : Nat) (start : Word) (page : PageImage)
  | waiting (dev : Nat) (runs : List Run)
  | performing (dev : Nat) (runs : List Run)
  deriving DecidableEq, Repr

inductive SlotId where
  | one
  | two
  deriving DecidableEq, Repr

structure ForwardQueue where
  one : Slot
  two : Slot
  deriving DecidableEq, Repr

/-! ## Control window (chapter 6) -/

/-- Mark results in the order of their codes (R101). -/
inductive MarkResult where
  | ok | empty | queueFull | lost | badMark | notHalted | unconfigured | notPaused
  deriving DecidableEq, Repr

/-- The control window's own state. FAULT and LOST follow the engine and the group queue (R108). -/
structure Window where
  lastMark : Byte
  result : MarkResult
  done : Bool
  fwdFail : Bool
  setupNotice : Bool
  completion : Byte
  ffDevice : Option Nat
  ffAddr : Word
  deriving DecidableEq, Repr

/-! ## Upstream port and relay (chapters 7 and 8) -/

inductive Gate where
  | opn
  | refusing
  deriving DecidableEq, Repr

inductive HoldPoint where
  | none
  | a
  | b
  deriving DecidableEq, Repr

inductive Direction where
  | write
  | read
  deriving DecidableEq, Repr

/-- Frame classes (R117). -/
inductive FrameClass where
  | undecided | addressSet | staged | mark | refused | posted | read | relay
  deriving DecidableEq, Repr

/-- The frame record (R117). -/
structure Frame where
  direction : Option Direction
  devAddr : DevAddr
  dev : Option Nat
  cls : FrameClass
  headerBytes : Nat
  /-- the first word-address byte, until the second forms the start address (R121) -/
  addrHigh : Byte
  start : Option Word
  acked : Nat
  /-- a data byte of the frame has been answered with a NAK (R125) -/
  refusedData : Bool
  /-- the mark byte (R99) -/
  markByte : Option Byte
  /-- a relayed read sends FFh to its end (R129); a READ frame shows this in its phase -/
  filling : Bool
  dead : Bool
  /-- the limits taken at the frame's start (R117) -/
  holdLimit : Nat
  idleLimit : Nat
  deriving DecidableEq, Repr

/-- One shadow pointer per device index (R117). -/
structure Pointers where
  p0 : Word
  p1 : Word
  p2 : Word
  p3 : Word
  deriving DecidableEq, Repr

structure Port where
  gate : Gate
  frame : Option Frame
  /-- the hold point of the byte in progress, from the event that decides the hold (R118, R127); USCL is held from the
  moment the hold timer runs, and until then the clock pulse before the hold goes on (log 32) -/
  hold : HoldPoint
  /-- the limit in ms the hold timer runs against, or stopped: it runs exactly while USCL is held (R128) -/
  holdTimer : Option Nat
  /-- the limit in ms the idle timer runs against, or stopped -/
  idleTimer : Option Nat
  pointers : Pointers
  /-- the acknowledge bit the port gives to the last byte of the controller: ack is true (log 18) -/
  answer : Option Bool
  /-- the byte the port last sent upstream in the frame in progress (log 18) -/
  sent : Option Byte
  deriving DecidableEq, Repr

/-- What the relay is doing downstream (R142 to R145). -/
inductive RelayStage where
  /-- its request waits in the upstream FIFO -/
  | requested
  /-- granted; a BUSY home device is polled before the frame -/
  | polling
  /-- the controller's device byte is on the downstream segment -/
  | deviceSent
  /-- a later byte of the controller is on the downstream segment (a home relay: header and first byte) -/
  | byteSent
  /-- open in write direction, no byte in flight -/
  | opn
  /-- a byte is being clocked out of the memory -/
  | readByte
  /-- the memory's byte has been sent upstream; the controller's answer is awaited -/
  | readHeld
  /-- the controller has answered a byte with a NAK -/
  | drained
  /-- a repeated start was passed on; the next device byte is awaited -/
  | restarted
  /-- BUS_STUCK was reported; the grant is kept until the relay closes -/
  | stuck
  deriving DecidableEq, Repr

/-- What a relay to the home device while UNCONFIGURED holds further (R141). -/
structure HomeRelay where
  start : Word
  byteRelayed : Bool
  deriving DecidableEq, Repr

/-- The relay in progress (R141). -/
structure Relay where
  addr : DevAddr
  direction : Direction
  /-- the downstream frame is open -/
  opened : Bool
  /-- a data byte of the current frame was answered with a NAK -/
  naked : Bool
  home : Option HomeRelay
  stage : RelayStage
  /-- the controller's byte being relayed -/
  byte : Byte
  deriving DecidableEq, Repr

/-! ## Downstream port (chapter 9) -/

/-- Requesters of the downstream bus (R149, R150). -/
inductive Requester where
  | posted (slot : SlotId)
  | read
  | relay
  | engine
  | setupRead
  | scanRead
  | homePoll
  deriving DecidableEq, Repr

inductive DevState where
  | ready
  | busy
  | faulted
  deriving DecidableEq, Repr

/-- The poll in progress (R147, R155). -/
structure Poll where
  addr : DevAddr
  /-- the POLL_LIMIT in force when it began, in ms -/
  limit : Nat
  /-- it follows a write frame of this operation -/
  followsWrite : Bool
  /-- that frame was refused (R59, R140) -/
  afterRefusal : Bool
  /-- an attempt is on the segment (true), or the 100 us interval runs (false) -/
  attempt : Bool
  deriving DecidableEq, Repr

/-- What closes the downstream frame of a READ or a relay (log 33). -/
inductive Closing where
  /-- a stop alone: the controller's own stop, a stop after a repeated start that has been passed on or after the
  controller's NAK, and the stop of a refused or cut header or device byte (R88, R94, R142, R144) -/
  | stop
  /-- a repeated start, then a stop: the memory drops the write data of the frame (R144, R145) -/
  | restartStop
  /-- the memory's byte, held before its ack slot, is answered with a NAK, and a stop follows (R89, R94, R95, R97,
  R145) -/
  | nakStop
  deriving DecidableEq, Repr

/-- The frame in progress on the downstream segment, polls, open relays and bus clears apart (R148). -/
inductive Activity where
  | none
  /-- a write frame: device, word address, data bytes -/
  | write (addr : DevAddr) (start : Word) (bytes : List Byte)
  /-- a random read of the engine, the setup unit or the scan: device, word address, bytes asked for -/
  | read (addr : DevAddr) (start : Word) (count : Nat)
  /-- the random-read header of a proxy read -/
  | header (addr : DevAddr) (start : Word)
  /-- a byte of a proxy read is being clocked out of the memory -/
  | byte
  /-- the memory's byte is held before its ack slot -/
  | held
  /-- a relay is being wound up and a byte of it is in progress, sent by the part (write) or by the memory (read);
  `how` closes the frame after it, and `home` says that the home device is polled after the close (R145) -/
  | windUp (byte : Direction) (how : Closing) (home : Bool)
  /-- the conditions that close the downstream frame of a READ or a relay, no byte of it being in progress; `home` says
  that the home device is polled after the close (R89, R94, R95, R97, R142, R144, R145; log 33) -/
  | closing (how : Closing) (home : Bool)
  deriving DecidableEq, Repr

structure Downstream where
  upFifo : List Requester
  intReqs : List Requester
  grant : Option Requester
  fairness : Nat
  states : List DevState
  poll : Option Poll
  detections : Nat
  clears : Nat
  /-- a bus clear is in progress (R158) -/
  clearing : Bool
  /-- the READ or RELAY granted has ended upstream; its grant goes back when the poll, the bus clear or the winding up
  under way ends (log 10, log 11) -/
  ended : Bool
  speed : Speed
  activity : Activity
  deriving DecidableEq, Repr

/-! ## The part -/

/-- The state of the FG416, with the queue of commands that wait. -/
structure State where
  /-- RESETn is low or VDD is out of range (R173) -/
  inReset : Bool
  setup : Setup
  store : Store
  queue : GroupQueue
  engine : Engine
  journal : Journal
  read : ReadService
  forward : ForwardQueue
  window : Window
  port : Port
  relay : Option Relay
  down : Downstream
  /-- the model's own: index of the next free value (log 7) -/
  freeIndex : Nat
  /-- the commands that wait, first in first out -/
  pending : List Instr
  deriving DecidableEq, Repr

/-- Why the machine stops with a fault: the spec gives the part no event that stops it (log 27), so no reason
exists and nothing raises one. -/
inductive Fault where
  deriving DecidableEq, Repr

/-- Why a command is given no meaning. -/
inductive Refusal where
  /-- Raised by exec's arm of a command that has no meaning yet. Safe: the run stops. -/
  | notModelled (mnemonic : String)
  /-- Raised by a command's meaning when the spec's own conditions for the event do not hold in the present state,
  so that the event cannot reach the part (log 3). Safe: the run stops. -/
  | outOfPlace
  /-- Raised by a command's meaning when the operand is none the spec gives the row (log 3). Safe: the run stops. -/
  | illFormed
  deriving DecidableEq, Repr

/-- What the meaning of a command answers. -/
abbrev Result := Host.Outcome State Fault Refusal

/-! ## Reset values (R3, R23, R44, R49, R69, R85, R101, R108, R113, R117, R136, R147, R175) -/

def Setup.reset : Setup where
  straps := { ha := 0, sb := false }
  config := .unconfigured
  reject := .none
  tables := Tables.defaults
  reload := .none
  holding := none
  loadBuffer := none
  stale := false
  attempt := .none
  kept := false
  readAttempts := 0
  repeatDue := false
  phase := .polling

def Store.reset : Store where
  image := none
  claims := []

def GroupQueue.reset : GroupQueue where
  openGroup := none
  sealed := []
  lost := false

def Engine.reset : Engine where
  state := .idle
  pointer := 0
  attempts := 0
  pauseRequested := false
  remembered := none
  faultCode := .none
  faultDevice := none

def Journal.reset : Journal where
  head := 0
  nextSeq := 0x0001
  lastSeq := 0x0000
  lastTag := 0x00
  live := none
  scan := none

def ReadService.reset : ReadService where
  dev := 0
  phase := .none
  snapshot := none

def ForwardQueue.reset : ForwardQueue where
  one := .free
  two := .free

def Window.reset : Window where
  lastMark := 0x00
  result := .ok
  done := false
  fwdFail := false
  setupNotice := false
  completion := 0
  ffDevice := none
  ffAddr := 0x0000

def Port.reset : Port where
  gate := .refusing
  frame := none
  hold := .none
  holdTimer := none
  idleTimer := none
  pointers := { p0 := 0, p1 := 0, p2 := 0, p3 := 0 }
  answer := none
  sent := none

def Downstream.reset : Downstream where
  upFifo := []
  intReqs := []
  grant := none
  fairness := 0
  states := [.ready]
  poll := none
  detections := 0
  clears := 0
  clearing := false
  ended := false
  speed := .khz100
  activity := .none

/-- The part held in reset, every block at the value its own rule gives for reset (section 11.1). -/
def State.reset : State where
  inReset := true
  setup := Setup.reset
  store := Store.reset
  queue := GroupQueue.reset
  engine := Engine.reset
  journal := Journal.reset
  read := ReadService.reset
  forward := ForwardQueue.reset
  window := Window.reset
  port := Port.reset
  relay := none
  down := Downstream.reset
  freeIndex := 0
  pending := []

end Sys2Proof.Machine
end

