-- ==== Sys2Proof/Machine/Operands.lean ====
section
/-! DEFINITION. What the bytes mean: byte order and CRC (chapter 12), the strapped areas and address classes
(sections 1.1 and 1.3), the setup record with its validation (section 1.4), and the journal record with the
scan's judgements (chapter 4). Nothing here reads or changes the state. -/

namespace Sys2Proof.Machine

/-! ## Byte order (R185) and the record CRC (R187) -/

/-- A two-byte field, high byte first (R185). -/
def wordOf (hi lo : Byte) : Word := hi ++ lo

def hiByte (w : Word) : Byte := w.extractLsb' 8 8

def loByte (w : Word) : Byte := w.extractLsb' 0 8

/-- A word as it stands in the three formats and on the segments (R185). -/
def wordBytes (w : Word) : List Byte := [hiByte w, loByte w]

def byteAt (bs : List Byte) (i : Nat) : Byte := bs.getD i 0

def wordAt (bs : List Byte) (i : Nat) : Word := wordOf (byteAt bs i) (byteAt bs (i + 1))

/-- One shift of the remainder (R187). -/
def crcBit (r : Word) : Word := if r.msb then (r <<< 1) ^^^ 0x1021 else r <<< 1

/-- One byte combined into the high eight bits, then eight shifts (R187). -/
def crcByte (r : Word) (b : Byte) : Word := Nat.repeat crcBit 8 (r ^^^ wordOf b 0)

/-- The record CRC (R187). -/
def crc16 (bs : List Byte) : Word := bs.foldl crcByte 0xFFFF

/-! ## Straps, areas and address classes (R1, R4, R6) -/

/-- 50h plus HA (R1). -/
def homeAddr (st : Straps) : DevAddr := 0x50#7 + st.ha.setWidth 7

/-- First byte of the setup area (R1). -/
def setupBase (st : Straps) : Nat := if st.sb then 0x0100 else 0x0000

/-- First byte of the control window (R1). -/
def windowBase (st : Straps) : Nat := if st.sb then 0x0180 else 0x0080

def inArea (base a : Nat) : Bool := decide (base ≤ a ∧ a < base + Config.areaSize)

/-- Capacity of a capacity code (section 1.2). -/
def capacityOfCode (c : Nat) : Nat := 4096 * 2 ^ c

/-- Page size of a page size code (section 1.2). -/
def pageSizeOfCode (c : Nat) : Nat := 8 * 2 ^ c

/-- Capacity of a device index. With no entry in the table the home device is taken as 64 KiB (R7). -/
def Tables.capacity (t : Tables) (i : Nat) : Nat :=
  match t.devices[i]? with
  | some d => d.capacity
  | none => Config.unconfiguredCapacity

/-- Page size of a device index in the table. -/
def Tables.pageSize (t : Tables) (i : Nat) : Nat :=
  match t.devices[i]? with
  | some d => d.pageSize
  | none => 1

/-- First byte of a page range (section 1.2). -/
def PageRange.low (t : Tables) (r : PageRange) : Nat := r.firstPage * t.pageSize r.dev

/-- The byte after the last of a page range (section 1.2). -/
def PageRange.high (t : Tables) (r : PageRange) : Nat := (r.firstPage + r.pageCount) * t.pageSize r.dev

def PageRange.covers (t : Tables) (r : PageRange) (dev a : Nat) : Bool :=
  decide (r.dev = dev ∧ r.low t ≤ a ∧ a < r.high t)

/-- The five address classes (R4). -/
inductive AddrClass where
  | control | setup | guarded | ring | opn
  deriving DecidableEq, Repr

/-- The class of a reduced address while CONFIGURED (R4). -/
def classify (st : Straps) (t : Tables) (dev a : Nat) : AddrClass :=
  if dev = 0 ∧ inArea (windowBase st) a then .control
  else if dev = 0 ∧ inArea (setupBase st) a then .setup
  else if t.regions.any (fun r => r.covers t dev a) then .guarded
  else if t.ring.any (fun r => r.covers t dev a) then .ring
  else .opn

/-! ## The setup record (section 12.2, R2, R9 to R14) -/

def descDevice (bs : List Byte) (n : Nat) : Device where
  addr := (byteAt bs (16 + 3 * n)).setWidth 7
  capacity := capacityOfCode (byteAt bs (17 + 3 * n)).toNat
  pageSize := pageSizeOfCode (byteAt bs (18 + 3 * n)).toNat

def descRegion (bs : List Byte) (n : Nat) : PageRange where
  dev := (byteAt bs (32 + 5 * n)).toNat
  firstPage := (wordAt bs (33 + 5 * n)).toNat
  pageCount := (wordAt bs (35 + 5 * n)).toNat

/-- The tables a setup record describes (R2). -/
def tablesOf (bs : List Byte) : Tables where
  devices := (List.range (byteAt bs 4).toNat).map (descDevice bs)
  regions := (List.range (byteAt bs 5).toNat).map (descRegion bs)
  ring := some { dev := (byteAt bs 10).toNat, firstPage := (wordAt bs 11).toNat, pageCount := (wordAt bs 13).toNat }
  holdLimit := (byteAt bs 6).toNat
  pollLimit := (byteAt bs 7).toNat
  idleLimit := (byteAt bs 8).toNat
  speed := if byteAt bs 9 = 0 then .khz100 else .khz400
  generation := byteAt bs 3

/-- Every pair of the list, the earlier first, meets the test. -/
def allPairs {α : Type} (ok : α → α → Bool) : List α → Bool
  | [] => true
  | x :: xs => xs.all (ok x) && allPairs ok xs

/-- One device descriptor on its own: address 08h to 77h, codes at most 4 (R10). -/
def descDeviceOk (bs : List Byte) (n : Nat) : Bool :=
  decide (0x08 ≤ (byteAt bs (16 + 3 * n)).toNat ∧ (byteAt bs (16 + 3 * n)).toNat ≤ 0x77
    ∧ (byteAt bs (17 + 3 * n)).toNat ≤ 4 ∧ (byteAt bs (18 + 3 * n)).toNat ≤ 4)

/-- The device checks (R10). -/
def devicesOk (st : Straps) (bs : List Byte) : Bool :=
  let n := (byteAt bs 4).toNat
  decide (1 ≤ n ∧ n ≤ 4)
    && decide (byteAt bs 16 = (homeAddr st).setWidth 8)
    && (List.range n).all (descDeviceOk bs)
    && allPairs (fun i j => decide (byteAt bs (16 + 3 * i) ≠ byteAt bs (16 + 3 * j))) (List.range n)

/-- A page range lies within its device (R11, R12). -/
def PageRange.fits (t : Tables) (r : PageRange) : Bool :=
  decide (r.dev < t.devices.length ∧ r.high t ≤ t.capacity r.dev)

/-- The region checks (R11). -/
def regionsOk (bs : List Byte) : Bool :=
  decide ((byteAt bs 5).toNat ≤ 8)
    && (tablesOf bs).regions.all (fun r => decide (r.pageCount ≠ 0) && r.fits (tablesOf bs))

/-- The ring checks (R12). -/
def ringOk (bs : List Byte) : Bool :=
  (tablesOf bs).ring.all fun r =>
    r.fits (tablesOf bs) && decide (Config.ringMin ≤ r.pageCount * (tablesOf bs).pageSize r.dev)

/-- The limit checks (R13). -/
def limitsOk (bs : List Byte) : Bool :=
  decide (1 ≤ (byteAt bs 6).toNat ∧ (byteAt bs 6).toNat ≤ 250)
    && decide (1 ≤ (byteAt bs 7).toNat ∧ (byteAt bs 7).toNat ≤ 100)
    && decide (10 ≤ (byteAt bs 8).toNat ∧ (byteAt bs 8).toNat ≤ 250)
    && decide ((byteAt bs 9).toNat ≤ 1)

/-- Device, first byte, byte after the last. -/
abbrev ByteRange := Nat × Nat × Nat

def ByteRange.disjoint (x y : ByteRange) : Bool :=
  decide (x.1 ≠ y.1 ∨ x.2.2 ≤ y.2.1 ∨ y.2.2 ≤ x.2.1)

def PageRange.bytes (t : Tables) (r : PageRange) : ByteRange := (r.dev, r.low t, r.high t)

/-- The regions, the ring, the setup area and the control window as byte ranges (R14). -/
def Tables.byteRanges (st : Straps) (t : Tables) : List ByteRange :=
  t.regions.map (PageRange.bytes t) ++ t.ring.toList.map (PageRange.bytes t)
    ++ [(0, setupBase st, setupBase st + Config.areaSize), (0, windowBase st, windowBase st + Config.areaSize)]

/-- The overlap check (R14). -/
def overlapOk (st : Straps) (bs : List Byte) : Bool :=
  allPairs ByteRange.disjoint ((tablesOf bs).byteRanges st)

/-- The validation of R9 from its second check on: the first check that fails gives the reason. -/
def validate (st : Straps) (bs : List Byte) : Reject :=
  if ¬ (byteAt bs 0 = 0xC7 ∧ byteAt bs 1 = 0x1E) then .badMagic
  else if crc16 (bs.take 126) ≠ wordAt bs 126 then .badCrc
  else if byteAt bs 2 ≠ 0x01 then .badVersion
  else if devicesOk st bs = false then .badDevice
  else if regionsOk bs = false then .badRegion
  else if ringOk bs = false then .badRing
  else if limitsOk bs = false then .badLimit
  else if overlapOk st bs = false then .overlap
  else .none

/-! ## The journal record (R71 to R73, section 12.3) -/

/-- One payload item (R71). -/
def itemBytes (e : Entry) : List Byte :=
  BitVec.ofNat 8 e.dev :: hiByte e.start :: loByte e.start :: BitVec.ofNat 8 e.data.length :: e.data

def payloadOf (es : List Entry) : List Byte := es.flatMap itemBytes

/-- The sum of the entry lengths: a group's byte total (R42). -/
def entriesBytes (es : List Entry) : Nat := (es.map (fun e => e.data.length)).sum

/-- 16 plus, for each entry, 4 plus its length (R72). -/
def recordSize (es : List Entry) : Nat := Config.headerSize + 4 * es.length + entriesBytes es

/-- A size in pages, rounded up (R72). -/
def pagesFor (size pageSize : Nat) : Nat := (size + pageSize - 1) / pageSize

def Group.seqOrZero (g : Group) : Word := g.seq.getD 0

def Group.tagOrZero (g : Group) : Byte := g.tag.getD 0

/-- The ten header bytes before the CRC (R71). -/
def recordHead (g : Group) (pages : Nat) : List Byte :=
  [0xA6, 0x19] ++ wordBytes g.seqOrZero ++ [g.tagOrZero, BitVec.ofNat 8 g.entries.length]
    ++ wordBytes (BitVec.ofNat 16 (recordSize g.entries - Config.headerSize)) ++ wordBytes (BitVec.ofNat 16 pages)

/-- The record as the journal pass writes it (R52, R71). -/
def recordImage (g : Group) (pages : Nat) : List Byte :=
  recordHead g pages
    ++ wordBytes (crc16 (recordHead g pages ++ payloadOf g.entries))
    ++ wordBytes g.seqOrZero ++ wordBytes (~~~ g.seqOrZero)
    ++ payloadOf g.entries

/-- The CRC of a record as read: the ten header bytes before the CRC field and the payload (R187). -/
def recordCrc (bs : List Byte) : Word := crc16 (bs.take 10 ++ bs.drop 16)

/-- The two checks of the verify step (R53). -/
def verifyMatches (image bs : List Byte) : Bool :=
  decide (bs = image) && decide (recordCrc bs = wordAt bs 10)

/-! ## Candidates of the scan (R73, R78 to R82) -/

def headerSeq (h : List Byte) : Word := wordAt h 2
def headerTag (h : List Byte) : Byte := byteAt h 4
def headerEntryCount (h : List Byte) : Nat := (byteAt h 5).toNat
def headerPayloadLength (h : List Byte) : Nat := (wordAt h 6).toNat
def headerPageCount (h : List Byte) : Nat := (wordAt h 8).toNat

/-- The commit field holds the complement of the sequence (R73). -/
def headerCommitted (h : List Byte) : Bool := decide (wordAt h 12 = ~~~ headerSeq h)

/-- Both fields are valid (R73). -/
def headerRetired (h : List Byte) : Bool := headerCommitted h && decide (wordAt h 14 = headerSeq h)

/-- A ring page holds a candidate (R79). -/
def isCandidate (ringPages offset : Nat) (h : List Byte) : Bool :=
  decide (byteAt h 0 = 0xA6 ∧ byteAt h 1 = 0x19 ∧ 1 ≤ headerPageCount h
    ∧ offset + headerPageCount h ≤ ringPages)

/-- The payload divided exactly into n items, each with a length of 1 to 128 (R80). -/
def parseItems : Nat → List Byte → Option (List Entry)
  | 0, bs => if bs = [] then some [] else none
  | n + 1, d :: hi :: lo :: len :: rest =>
    if 1 ≤ len.toNat ∧ len.toNat ≤ 128 ∧ len.toNat ≤ rest.length then
      (parseItems n (rest.drop len.toNat)).map
        ({ dev := d.toNat, start := wordOf hi lo, data := rest.take len.toNat } :: ·)
    else none
  | _ + 1, _ => none

/-- The candidate check (R80): the items of a record that passes. -/
def checkRecord (pageSize : Nat) (header bs : List Byte) : Option (List Entry) :=
  if bs.take 16 = header
      ∧ 5 ≤ headerPayloadLength header ∧ headerPayloadLength header ≤ 1216
      ∧ headerPageCount header = pagesFor (16 + headerPayloadLength header) pageSize
      ∧ 1 ≤ headerEntryCount header ∧ headerEntryCount header ≤ 48
      ∧ recordCrc bs = wordAt bs 10 then
    parseItems (headerEntryCount header) (bs.drop 16)
  else none

/-- L, the largest sequence number among the candidates, taken as a plain number (R78). A candidate that has failed its
check is among them still (log 39). -/
def largestSeq (cs : List Candidate) : Nat := cs.foldl (fun m c => max m (headerSeq c.header).toNat) 0

/-- The rank of a sequence number relative to the largest L (R78). -/
def seqRank (largest : Nat) (s : Word) : Nat := (s - (BitVec.ofNat 16 largest - 32767)).toNat

/-- Candidate x counts as newer than y: greater rank, or the same rank on the higher ring offset (R78). -/
def newer (largest : Nat) (x y : Candidate) : Bool :=
  let rx := seqRank largest (headerSeq x.header)
  let ry := seqRank largest (headerSeq y.header)
  decide (ry < rx ∨ (rx = ry ∧ y.offset < x.offset))

def insertNewest (largest : Nat) (c : Candidate) : List Candidate → List Candidate
  | [] => [c]
  | x :: xs => if newer largest c x then c :: x :: xs else x :: insertNewest largest c xs

/-- The candidates in descending order of rank (R78, R80). R79 ranks them once, when every header has been read; R80 has
the scan go on, after a candidate has failed its check, as though its page held no candidate, and leaves open whether
the others are then ranked anew, relative to the largest number among them. DESIGN CHOICE, unsafe: they are not, and a
failed candidate's number still counts in the L of R78 (log 39). -/
def newestFirst (cs : List Candidate) : List Candidate :=
  cs.foldr (insertNewest (largestSeq cs)) []

def Candidate.retired (c : Candidate) : Bool := headerRetired c.header

/-- Committed and not retired (R73). -/
def Candidate.pendingReplay (c : Candidate) : Bool := headerCommitted c.header && !headerRetired c.header

/-- The items, if the candidate has passed its check. -/
def Candidate.items? (c : Candidate) : Option (List Entry) :=
  match c.verdict with
  | .passed items => some items
  | _ => none

/-- What a search in descending order until one passes finds (R80). -/
inductive Search where
  /-- this candidate is to be read next -/
  | read (c : Candidate)
  /-- this candidate is the first to have passed -/
  | found (c : Candidate)
  /-- none passed -/
  | nothing
  deriving DecidableEq, Repr

/-- The search of R80 in a list that is in descending order of rank. -/
def searchPassing : List Candidate → Search
  | [] => .nothing
  | c :: cs =>
    match c.verdict with
    | .unread => .read c
    | .passed _ => .found c
    | .failed => searchPassing cs

/-- The candidate whose whole read comes next, if any: the newest, the newest retired, then every committed,
unretired one (R80; the order among the last, newest first, is log 13). -/
def nextRecordRead (cs : List Candidate) : Option Candidate :=
  match searchPassing (newestFirst cs) with
  | .read c => some c
  | _ =>
    match searchPassing ((newestFirst cs).filter Candidate.retired) with
    | .read c => some c
    | _ => (newestFirst cs).find? fun c => c.pendingReplay && decide (c.verdict = .unread)

/-- The candidate a search has found. -/
def newestPassing (cs : List Candidate) : Option Candidate :=
  match searchPassing cs with
  | .found c => some c
  | _ => none

/-- The committed, unretired candidates that passed, in ascending order of rank (R82). -/
def replayCandidates (cs : List Candidate) : List Candidate :=
  ((newestFirst cs).filter fun c => c.pendingReplay && c.items?.isSome).reverse

/-- One item can be applied under the tables (R82). -/
def itemApplicable (t : Tables) (e : Entry) : Bool :=
  decide (e.dev < t.devices.length ∧ e.start.toNat < t.capacity e.dev
    ∧ e.start.toNat % t.pageSize e.dev + e.data.length ≤ t.pageSize e.dev)

/-- An item or entry in the setup area of the home device (R34, R39). -/
def entryTouchesSetup (st : Straps) (e : Entry) : Bool :=
  decide (e.dev = 0) && inArea (setupBase st) e.start.toNat

/-- The replay group of a candidate that passed (R39, R82). -/
def replayGroup (st : Straps) (ringFirst : Nat) (c : Candidate) : Group where
  state := .applying
  tag := some (headerTag c.header)
  seq := some (headerSeq c.header)
  entries := c.items?.getD []
  placement := some { first := ringFirst + c.offset, count := headerPageCount c.header }
  progress := 0
  passes := 0
  touchesSetup := (c.items?.getD []).any (entryTouchesSetup st)

end Sys2Proof.Machine
end

