-- ==== Sys2Proof/Machine/Ops.lean ====
section
/-! DEFINITION. The named operations over each block's state, from which every command's meaning is made: updates
by block, devices and shadow pointers, the page image, the claims on the staging store, the overlay, the forward
queue, holds and answers of the upstream port, requests, the bus and polls of the downstream port, notices and
the gate. -/

namespace Sys2Proof.Machine

/-! ## Updates by block -/

def State.updSetup (f : Setup → Setup) (s : State) : State := { s with setup := f s.setup }
def State.updStore (f : Store → Store) (s : State) : State := { s with store := f s.store }
def State.updQueue (f : GroupQueue → GroupQueue) (s : State) : State := { s with queue := f s.queue }
def State.updEngine (f : Engine → Engine) (s : State) : State := { s with engine := f s.engine }
def State.updJournal (f : Journal → Journal) (s : State) : State := { s with journal := f s.journal }
def State.updRead (f : ReadService → ReadService) (s : State) : State := { s with read := f s.read }
def State.updForward (f : ForwardQueue → ForwardQueue) (s : State) : State := { s with forward := f s.forward }
def State.updWindow (f : Window → Window) (s : State) : State := { s with window := f s.window }
def State.updPort (f : Port → Port) (s : State) : State := { s with port := f s.port }
def State.updRelay (f : Option Relay → Option Relay) (s : State) : State := { s with relay := f s.relay }
def State.updDown (f : Downstream → Downstream) (s : State) : State := { s with down := f s.down }

/-! ## Devices and shadow pointers (R4, R5, R90, R123, R124, R153) -/

def State.configured (s : State) : Bool := decide (s.setup.config = .configured)

/-- The index under which a device address is served: its entry in the table while CONFIGURED, the home device
while UNCONFIGURED (R5, R7, R120). -/
def State.indexOf (s : State) (a : DevAddr) : Option Nat :=
  match s.setup.config with
  | .configured => s.setup.tables.devices.findIdx? (fun d => decide (d.addr = a))
  | .unconfigured => if a = homeAddr s.setup.straps then some 0 else none

/-- The address of a served device index. -/
def State.addrOf (s : State) (i : Nat) : DevAddr :=
  match s.setup.tables.devices[i]? with
  | some d => d.addr
  | none => homeAddr s.setup.straps

def State.devState (s : State) (i : Nat) : DevState := s.down.states.getD i .ready

def State.setDevState (i : Nat) (v : DevState) (s : State) : State :=
  s.updDown fun d => { d with states := d.states.set i v }

/-- The state of the device at an address, if the part keeps one for it. -/
def State.setStateAt (a : DevAddr) (v : DevState) (s : State) : State :=
  match s.indexOf a with
  | some i => s.setDevState i v
  | none => s

def Pointers.get (p : Pointers) : Nat → Word
  | 0 => p.p0
  | 1 => p.p1
  | 2 => p.p2
  | 3 => p.p3
  | _ => 0

def Pointers.set (p : Pointers) (i : Nat) (w : Word) : Pointers :=
  match i with
  | 0 => { p with p0 := w }
  | 1 => { p with p1 := w }
  | 2 => { p with p2 := w }
  | 3 => { p with p3 := w }
  | _ => p

def State.pointer (s : State) (i : Nat) : Word := s.port.pointers.get i

def State.setPointer (i : Nat) (w : Word) (s : State) : State :=
  s.updPort fun p => { p with pointers := p.pointers.set i w }

/-- The pointer after a data byte of a read frame: on by one, from the capacity less one to 0 (R90). -/
def readAdvance (capacity : Nat) (w : Word) : Word := BitVec.ofNat 16 ((w.toNat + 1) % capacity)

/-- The pointer after an acknowledged data byte of a write frame while CONFIGURED: on by one within the page
(R123). -/
def pageAdvance (pageSize : Nat) (w : Word) : Word :=
  BitVec.ofNat 16 (w.toNat - w.toNat % pageSize + (w.toNat % pageSize + 1) % pageSize)

/-- The advance of a write frame's pointer in either configuration state (R123). -/
def State.advanceWrite (i : Nat) (s : State) : State :=
  if s.configured then s.setPointer i (pageAdvance (s.setup.tables.pageSize i) (s.pointer i))
  else s.setPointer i (s.pointer i + 1)

/-! ## The page image (R26 to R28, R32, R137) -/

def PageImage.writtenAt (p : PageImage) (i : Nat) : Bool := (p.cells.getD i none).isSome

/-- The number of positions written: the pool bytes an image holds (R27). -/
def PageImage.written (p : PageImage) : Nat := p.cells.countP Option.isSome

/-- Every position of the page is written (R32). -/
def PageImage.full (p : PageImage) : Bool := p.cells.all Option.isSome

/-- An empty image for a frame that starts at the address (R26, R137). -/
def PageImage.opened (pageSize : Nat) (start : Word) : PageImage where
  base := start.toNat - start.toNat % pageSize
  startOff := start.toNat % pageSize
  cells := List.replicate pageSize none
  counter := start.toNat % pageSize
  wrapped := false

def PageImage.write (i : Nat) (b : Byte) (p : PageImage) : PageImage := { p with cells := p.cells.set i (some b) }

/-- The position after the counter (R27). -/
def PageImage.next (p : PageImage) : Nat := (p.counter + 1) % p.cells.length

/-- A later byte of a staged frame: the counter advances, then the byte is written at it (R27, R28). -/
def PageImage.stage (b : Byte) (p : PageImage) : PageImage :=
  { p.write p.next b with counter := p.next, wrapped := p.wrapped || decide (p.next = 0) }

/-- A byte of a posted frame: it is written at the counter, which then advances (R137). -/
def PageImage.collect (b : Byte) (p : PageImage) : PageImage :=
  { p.write p.counter b with counter := p.next, wrapped := p.wrapped || decide (p.next = 0) }

/-- The bytes written at positions from the start offset on, and before it. -/
def PageImage.fromStart (p : PageImage) : List Byte := (p.cells.drop p.startOff).filterMap id
def PageImage.beforeStart (p : PageImage) : List Byte := (p.cells.take p.startOff).filterMap id

def runAt (a : Nat) (bs : List Byte) : Run := { start := BitVec.ofNat 16 a, data := bs }

/-- The runs of an image, in order (the table of R32). A run without a byte is none (log 17). -/
def PageImage.runs (p : PageImage) : List Run :=
  if p.wrapped && p.full then [runAt p.base (p.cells.filterMap id)]
  else if p.wrapped && !p.beforeStart.isEmpty then
    [runAt (p.base + p.startOff) p.fromStart, runAt p.base p.beforeStart]
  else [runAt (p.base + p.startOff) p.fromStart]

/-! ## The staging store (chapter 2) -/

def Image.descriptors (i : Image) : Nat := if i.second then 2 else 1

/-- The groups that hold entries. -/
def State.groups (s : State) : List Group := s.queue.openGroup.toList ++ s.queue.sealed

def Group.byteTotal (g : Group) : Nat := entriesBytes g.entries

/-- Pool bytes held by all entries and the image (R22). -/
def State.heldBytes (s : State) : Nat :=
  (s.groups.map Group.byteTotal).sum + (s.store.image.map (fun i => i.page.written)).getD 0

/-- Descriptors held by all entries and the image (R22). -/
def State.heldDescriptors (s : State) : Nat :=
  (s.groups.map (fun g => g.entries.length)).sum + (s.store.image.map Image.descriptors).getD 0

/-- Free pool bytes (R22). -/
def State.freePool (s : State) : Nat := Config.poolSize - s.heldBytes

/-- Free descriptors (R22). -/
def State.freeDescriptors (s : State) : Nat := Config.descriptorCount - s.heldDescriptors

def State.updOpen (f : Group → Group) (s : State) : State :=
  s.updQueue fun q => { q with openGroup := q.openGroup.map f }

/-- The OPEN group without its entries (R29, R35, R36). -/
def Group.emptied (g : Group) : Group := { g with entries := [], touchesSetup := false }

/-- Release image claim (R31). -/
def State.releaseImage (s : State) : State := s.updStore fun st => { st with image := none }

/-- A failed reservation loses the OPEN group (R29). -/
def State.loseOpenGroup (s : State) : State :=
  (s.releaseImage.updOpen Group.emptied).updQueue fun q => { q with lost := true }

/-- The image after a reserve claim, whether or not it can be met: opened by the first byte (R26), extended by a
later one (R27, R28). -/
def State.nextImage (dev : Nat) (start : Word) (b : Byte) (s : State) : Image :=
  match s.store.image with
  | none =>
    let p := PageImage.opened (s.setup.tables.pageSize dev) start
    { dev := dev, page := p.write p.startOff b, second := false }
  | some i =>
    { i with
      page := i.page.stage b
      second := i.second || (decide (i.page.next = 0) && !i.page.writtenAt 0) }

/-- Storage the image holds. -/
def State.imageBytes (s : State) : Nat := (s.store.image.map (fun i => i.page.written)).getD 0
def State.imageDescriptors (s : State) : Nat := (s.store.image.map Image.descriptors).getD 0

/-- The reservation can be met: no load group claim waits, and what the image grows by is free (R26 to R29). -/
def State.canReserve (dev : Nat) (start : Word) (b : Byte) (s : State) : Bool :=
  s.store.claims.isEmpty
    && decide ((s.nextImage dev start b).page.written ≤ s.imageBytes + s.freePool)
    && decide ((s.nextImage dev start b).descriptors ≤ s.imageDescriptors + s.freeDescriptors)

/-- Reserve claim for a data byte (R25 to R29): the store after it, and whether it was met. -/
def State.reserve (dev : Nat) (start : Word) (b : Byte) (s : State) : State × Bool :=
  if s.canReserve dev start b then
    (s.updStore fun st => { st with image := some (s.nextImage dev start b) }, true)
  else (s.loseOpenGroup, false)

/-- The entry's range holds the whole run (R33). -/
def Entry.holdsRun (e : Entry) (dev : Nat) (r : Run) : Bool :=
  decide (e.dev = dev ∧ e.start.toNat ≤ r.start.toNat
    ∧ r.start.toNat + r.data.length ≤ e.start.toNat + e.data.length)

/-- The run's bytes written over the entry's (R33). -/
def Entry.overwrite (e : Entry) (r : Run) : Entry :=
  let at_ := r.start.toNat - e.start.toNat
  { e with data := e.data.take at_ ++ r.data ++ e.data.drop (at_ + r.data.length) }

/-- The list with its newest entry for the device replaced by the run written over it, when the run lies within that
entry; none when the run cannot be coalesced (R33). The list is given newest first. -/
def coalesceNewest (dev : Nat) (r : Run) : List Entry → Option (List Entry)
  | [] => none
  | e :: es =>
    if e.dev = dev then
      if e.holdsRun dev r then some (e.overwrite r :: es) else none
    else (coalesceNewest dev r es).map (e :: ·)

/-- One run taken into the entries of the OPEN group: coalesced, or appended (R33). -/
def takeRun (dev : Nat) (es : List Entry) (r : Run) : List Entry :=
  match coalesceNewest dev r es.reverse with
  | some rev => rev.reverse
  | none => es ++ [{ dev := dev, start := r.start, data := r.data }]

/-- The run would be appended (R33). -/
def runAppends (dev : Nat) (es : List Entry) (r : Run) : Bool := (coalesceNewest dev r es.reverse).isNone

/-- One run taken into the OPEN group (R33, R34). -/
def Group.takeRun (st : Straps) (dev : Nat) (g : Group) (r : Run) : Group :=
  { g with
    entries := Machine.takeRun dev g.entries r
    touchesSetup := g.touchesSetup
      || (runAppends dev g.entries r && entryTouchesSetup st { dev := dev, start := r.start, data := r.data }) }

/-- Finalise claim (R32 to R34). Without an image there is no claim. -/
def State.finalise (s : State) : State :=
  match s.store.image with
  | none => s
  | some i => s.releaseImage.updOpen fun g => i.page.runs.foldl (Group.takeRun s.setup.straps i.dev) g

/-- A load group claim can be taken: its storage is free and the sealed order has a place (R39, R44). -/
def State.claimFits (g : Group) (s : State) : Bool :=
  decide (g.byteTotal ≤ s.freePool ∧ g.entries.length ≤ s.freeDescriptors
    ∧ s.queue.sealed.length < Config.sealedMax)

/-- The waiting claims taken in order, each whole, until one does not fit (R39, R172). -/
def State.takeClaimList : List Group → State → State
  | [], s => s.updStore fun st => { st with claims := [] }
  | g :: gs, s =>
    if s.claimFits g then State.takeClaimList gs (s.updQueue fun q => { q with sealed := q.sealed ++ [g] })
    else s.updStore fun st => { st with claims := g :: gs }

def State.takeClaims (s : State) : State := State.takeClaimList s.store.claims s

/-! ## The overlay (R40) -/

/-- The byte an entry holds for a device and address. -/
def Entry.byteFor (dev a : Nat) (e : Entry) : Option Byte :=
  if e.dev = dev ∧ e.start.toNat ≤ a then e.data[a - e.start.toNat]? else none

/-- Within a group the newest entry first (R40). -/
def Group.byteFor (dev a : Nat) (g : Group) : Option Byte := g.entries.reverse.findSome? (Entry.byteFor dev a)

/-- The newest staged byte for a device and reduced address: the OPEN group, then the sealed groups from the
newest (R40, R47). -/
def State.stagedByte (dev a : Nat) (s : State) : Option Byte :=
  (s.queue.openGroup.toList ++ s.queue.sealed.reverse).findSome? (Group.byteFor dev a)

/-! ## The forward queue (R136 to R140) -/

def ForwardQueue.get (f : ForwardQueue) : SlotId → Slot
  | .one => f.one
  | .two => f.two

def ForwardQueue.set (f : ForwardQueue) (i : SlotId) (v : Slot) : ForwardQueue :=
  match i with
  | .one => { f with one := v }
  | .two => { f with two := v }

/-- A FREE slot, the first one if both are (log 16). -/
def ForwardQueue.freeSlot (f : ForwardQueue) : Option SlotId :=
  if f.one = .free then some .one else if f.two = .free then some .two else none

def Slot.isCollecting : Slot → Bool
  | .collecting _ _ _ => true
  | _ => false

/-- The COLLECTING slot of the POSTED frame in progress (R137). -/
def ForwardQueue.collectingSlot (f : ForwardQueue) : Option SlotId :=
  if f.one.isCollecting then some .one else if f.two.isCollecting then some .two else none

def State.setSlot (i : SlotId) (v : Slot) (s : State) : State := s.updForward fun f => f.set i v

/-- The slot a POSTED frame reserves (R137). -/
def State.reserveSlot (dev : Nat) (start : Word) (s : State) : State :=
  match s.forward.freeSlot with
  | some i => s.setSlot i (.collecting dev start (PageImage.opened (s.setup.tables.pageSize dev) start))
  | none => s

/-- An acknowledged data byte written into the page image (R137). -/
def State.collectByte (b : Byte) (s : State) : State :=
  match s.forward.collectingSlot with
  | some i =>
    match s.forward.get i with
    | .collecting dev start p => s.setSlot i (.collecting dev start (p.collect b))
    | _ => s
  | none => s

/-- The COLLECTING slot returned to FREE (R138). -/
def State.dropCollecting (s : State) : State :=
  match s.forward.collectingSlot with
  | some i => s.setSlot i .free
  | none => s

def Slot.dev : Slot → Nat
  | .collecting d _ _ => d
  | .waiting d _ => d
  | .performing d _ => d
  | .free => 0

def Slot.runs : Slot → List Run
  | .waiting _ rs => rs
  | .performing _ rs => rs
  | _ => []

/-- The queued write's start address: the first byte of its first run (R138). -/
def Slot.start (sl : Slot) : Word := (sl.runs.head?.map Run.start).getD 0

/-! ## Holds and answers of the upstream port (R117, R127, R128, R131) -/

def State.updFrame (f : Frame → Frame) (s : State) : State :=
  s.updPort fun p => { p with frame := p.frame.map f }

/-- A frame record at a start (R117): the limits in force are taken for the whole frame. -/
def newFrame (t : Tables) : Frame where
  direction := none
  devAddr := 0
  dev := none
  cls := .undecided
  headerBytes := 0
  addrHigh := 0
  start := none
  acked := 0
  refusedData := false
  markByte := none
  filling := false
  dead := false
  holdLimit := t.holdLimit
  idleLimit := t.idleLimit

/-- A frame begins: its record, no hold, the idle timer running (R117, R118, R131). -/
def State.beginFrame (s : State) : State :=
  s.updPort fun p =>
    { p with
      frame := some (newFrame s.setup.tables), hold := .none, holdTimer := none
      idleTimer := some s.setup.tables.idleLimit, answer := none, sent := none }

/-- The port stands between frames (R135). -/
def State.clearFrame (s : State) : State :=
  s.updPort fun p =>
    { p with frame := none, hold := .none, holdTimer := none, idleTimer := none, answer := none, sent := none }

/-- A hold is decided: at A with the eighth bit of the byte received, which is not yet answered, at B with the
acknowledge bit before the byte to be sent (R118, R127). The controller's clock pulse goes on, and the idle timer with
it, until USCL falls (R131; log 32). -/
def State.decideHold (h : HoldPoint) (s : State) : State :=
  s.updPort fun p =>
    { p with
      hold := h, holdTimer := none, idleTimer := p.frame.map Frame.idleLimit
      answer := if h = .a then none else p.answer }

/-- The clock pulse before a hold has ended: USCL is held low, the hold timer starts from zero and the idle timer stops
(R127, R128, R131). -/
def State.holdClock (s : State) : State :=
  if s.port.hold = .none then s
  else s.updPort fun p => { p with holdTimer := p.frame.map Frame.holdLimit, idleTimer := none }

/-- USCL is held low by the port: a hold stands and its timer runs (R127, R128). -/
def State.clockHeld (s : State) : Bool := decide (s.port.hold ≠ .none) && s.port.holdTimer.isSome

/-- A hold is released and its timer stopped in one event; the idle timer starts (R127, R131). -/
def State.releaseHold (s : State) : State :=
  s.updPort fun p => { p with hold := .none, holdTimer := none, idleTimer := p.frame.map Frame.idleLimit }

/-- The acknowledge bit of a byte the controller sent: ack (true) or NAK. -/
def State.answerWith (ack : Bool) (s : State) : State := s.updPort fun p => { p with answer := some ack }

/-- A byte sent upstream. -/
def State.sendUp (b : Byte) (s : State) : State := s.updPort fun p => { p with sent := some b }

/-- A data byte of the controller answered with an ack (R117, R123). The bytes of a read, which the controller answers,
are not counted: R117 does not say, and this is the model's choice (log 35). A byte counts from its eighth bit on, also
if its acknowledge clock is cut, which is the model's choice too (log 37). -/
def State.ackData (s : State) : State :=
  (s.answerWith true).updFrame fun f => { f with acked := f.acked + 1 }

/-- A data byte answered with a NAK (R125). -/
def State.refuseData (s : State) : State :=
  (s.answerWith false).updFrame fun f => { f with refusedData := true }

/-- The frame is dead (R126). -/
def State.killFrame (s : State) : State := s.updFrame fun f => { f with dead := true }

/-- A held byte is refused: the hold ends with a NAK and the frame is dead (R126, R128). -/
def State.refuseHeld (s : State) : State := (s.releaseHold.answerWith false).killFrame

/-! ## Requests, the bus and polls (R147 to R156) -/

def State.placeUp (r : Requester) (s : State) : State := s.updDown fun d => { d with upFifo := d.upFifo ++ [r] }

def State.placeInternal (r : Requester) (s : State) : State := s.updDown fun d => { d with intReqs := d.intReqs ++ [r] }

/-- A request of a dead frame leaves the upstream FIFO (R150). -/
def State.withdraw (r : Requester) (s : State) : State :=
  s.updDown fun d => { d with upFifo := d.upFifo.filter (fun x => decide (x ≠ r)) }

/-- An operation boundary: the bus is free, no frame is in progress (R149). -/
def State.freeBus (s : State) : State :=
  s.updDown fun d => { d with grant := none, poll := none, clearing := false, ended := false, activity := .none }

def State.setActivity (a : Activity) (s : State) : State := s.updDown fun d => { d with activity := a }

/-- A device byte: the 7-bit address above the direction bit, 1 for read (R185). -/
def deviceByte (a : DevAddr) (d : Direction) : Byte :=
  match d with
  | .write => a ++ 0#1
  | .read => a ++ 1#1

/-- The bytes that the part itself sends in a frame of its own, in the order of the segment: a word address goes high
byte first (R88, R148, R185). -/
def Activity.sent : Activity → List Byte
  | .write a w bs => deviceByte a .write :: (wordBytes w ++ bs)
  | .read a w _ => deviceByte a .write :: (wordBytes w ++ [deviceByte a .read])
  | .header a w => deviceByte a .write :: (wordBytes w ++ [deviceByte a .read])
  | .none | .byte | .held | .windUp _ _ _ | .closing _ _ => []

/-- The bytes that a grant of the relay sends: the controller's device byte, or for the home device its device byte,
the two word-address bytes as the controller sent them, high byte first, and the data byte (R142, R185). -/
def Relay.sent (r : Relay) : List Byte :=
  match r.home with
  | none => [r.byte]
  | some h => deviceByte r.addr .write :: (wordBytes h.start ++ [r.byte])

/-- A poll made at a grant because the device is BUSY, or the home poll: the first attempt comes at once (R155). -/
def State.pollAtGrant (a : DevAddr) (s : State) : State :=
  s.updDown fun d =>
    { d with
      poll := some { addr := a, limit := s.setup.tables.pollLimit, followsWrite := false, afterRefusal := false, attempt := true }
      activity := .none }

/-- A write frame's stop: the device becomes BUSY and its write-cycle poll begins, its first attempt 100 us later
(R153, R155). -/
def State.pollAfterWrite (a : DevAddr) (refused : Bool) (s : State) : State :=
  (s.setStateAt a .busy).updDown fun d =>
    { d with
      poll := some { addr := a, limit := s.setup.tables.pollLimit, followsWrite := true, afterRefusal := refused, attempt := false }
      activity := .none }

def State.endPoll (s : State) : State := s.updDown fun d => { d with poll := none }

/-- The upstream frame of the granted READ or RELAY has ended while a poll, a bus clear or the winding up of its
downstream frame runs (R94, R97, R144, R145): the grant goes back at its end (log 10, log 11). -/
def State.markEnded (s : State) : State := s.updDown fun d => { d with ended := true }

/-- The closing conditions of a READ's or a relay's downstream frame begin. -/
def State.beginClosing (how : Closing) (home : Bool) (s : State) : State := s.setActivity (.closing how home)

/-- The downstream frame of a READ or a relay has been closed: a home relay's device becomes BUSY and is polled; the
grant of an operation whose upstream side has ended goes back, and that of a READ frame stays to its end (R94, R97,
R144, R145, R149, R153). -/
def State.closed (home : Bool) (s : State) : State :=
  if home then s.pollAfterWrite (homeAddr s.setup.straps) false
  else if s.down.ended then s.freeBus
  else s.setActivity .none

/-- The requester holds the bus and is still served: its upstream side has not ended. -/
def State.serving (r : Requester) (s : State) : Bool := decide (s.down.grant = some r ∧ s.down.ended = false)

/-! ## Notices and the gate (R110, R111, R182) -/

/-- A posted write has failed (R110, R140). -/
def State.forwardFailure (dev : Nat) (a : Word) (s : State) : State :=
  s.updWindow fun w => { w with fwdFail := true, ffDevice := some dev, ffAddr := a }

/-- A setup record is rejected or the scan has failed: reason and notice in one event (R111). -/
def State.rejectSetup (r : Reject) (s : State) : State :=
  (s.updSetup fun st => { st with reject := r }).updWindow fun w => { w with setupNotice := true }

/-- Configuration entry opens the upstream port (R182). -/
def State.openGate (s : State) : State :=
  (s.updSetup fun st => { st with phase := .none }).updPort fun p => { p with gate := .opn }

end Sys2Proof.Machine
end

