-- ==== Sys2Proof/Machine/Flags.lean ====
section
/-! DEFINITION. What the part shows: the five notices and NOTIFYn (section 6.3), the flags and device states bytes
(R116, R186), and the status record (R114, section 12.4). Showing changes nothing. -/

namespace Sys2Proof.Machine

/-- FAULT is set while the engine is HALTED (R108, R111). -/
def State.faultNotice (s : State) : Bool := decide (s.engine.state = .halted)

/-- LOST is set while the LOST condition is set (R108, R111). -/
def State.lostNotice (s : State) : Bool := s.queue.lost

/-- RELOAD_PENDING (section 1.5): set in every reload state but NONE. -/
def State.reloadPending (s : State) : Bool := decide (s.setup.reload ≠ .none)

/-- NOTIFYn is low exactly while a notice is set (R112). -/
def State.notifyLow (s : State) : Bool :=
  s.window.done || s.faultNotice || s.window.fwdFail || s.window.setupNotice || s.lostNotice

/-- USCL is driven low by the part exactly while a hold is taken: from the end of the clock pulse before it to its
release (R127, R128; log 32). -/
def State.usclLow (s : State) : Bool := s.clockHeld

/-- One bit of the flags byte. -/
def flagBit (i : Nat) (b : Bool) : Byte := if b then BitVec.ofNat 8 (2 ^ i) else 0

/-- The flags byte (R116, section 12.4): bit 7 reads 0. -/
def State.flagsByte (s : State) : Byte :=
  flagBit 0 s.window.done ||| flagBit 1 s.faultNotice ||| flagBit 2 s.window.fwdFail
    ||| flagBit 3 s.window.setupNotice ||| flagBit 4 s.lostNotice ||| flagBit 5 s.reloadPending
    ||| flagBit 6 s.engine.pauseRequested

def DevState.code : DevState → BitVec 2
  | .ready => 0
  | .busy => 1
  | .faulted => 2

/-- The pair of bits for one device index; 3 is not configured (R115, R186). -/
def State.devicePair (s : State) (i : Nat) : BitVec 2 :=
  if s.configured && decide (i < s.setup.tables.devices.length) then (s.devState i).code else 3

/-- The device states byte, index 3 in the high bits (R186). -/
def State.deviceStatesByte (s : State) : Byte :=
  s.devicePair 3 ++ s.devicePair 2 ++ s.devicePair 1 ++ s.devicePair 0

def ConfigState.code : ConfigState → Byte
  | .unconfigured => 0x01
  | .configured => 0x02

def Reject.code : Reject → Byte
  | .none => 0
  | .noAnswer => 1
  | .badMagic => 2
  | .badCrc => 3
  | .badVersion => 4
  | .badDevice => 5
  | .badRegion => 6
  | .badRing => 7
  | .badLimit => 8
  | .overlap => 9

def EngineState.code : EngineState → Byte
  | .idle => 0
  | .phase .journal => 1
  | .phase .verify => 2
  | .phase .commit => 3
  | .phase .apply => 4
  | .phase .retire => 5
  | .paused => 6
  | .halted => 7

def FaultCode.code : FaultCode → Byte
  | .none => 0
  | .pollTimeout => 1
  | .writeRefused => 2
  | .verifyFailed => 3
  | .busStuck => 4
  | .deviceFaulted => 5
  | .readRefused => 6

def MarkResult.code : MarkResult → Byte
  | .ok => 0
  | .empty => 1
  | .queueFull => 2
  | .lost => 3
  | .badMark => 4
  | .notHalted => 5
  | .unconfigured => 6
  | .notPaused => 7

/-- A device index, or FFh for none (R185). -/
def indexByte : Option Nat → Byte
  | some i => BitVec.ofNat 8 i
  | none => 0xFF

def byteOf (n : Nat) : Byte := BitVec.ofNat 8 n

def State.openEntries (s : State) : List Entry := (s.queue.openGroup.map Group.entries).getD []

/-- The tag of the sealed group in a place, oldest first, or 00h (R47). -/
def State.sealedTag (s : State) (i : Nat) : Byte := (s.queue.sealed[i]?.map Group.tagOrZero).getD 0x00

/-- Apply progress of the oldest sealed group (R67). -/
def State.applyProgress (s : State) : Nat := (s.queue.sealed.head?.map Group.progress).getD 0

/-- The 32 bytes of the status record, as their owners hold them (R114, section 12.4). -/
def State.statusRecord (s : State) : List Byte :=
  [ s.setup.config.code, s.setup.reject.code, s.setup.tables.generation, s.engine.state.code,
    s.engine.faultCode.code, s.flagsByte, s.window.lastMark, s.window.result.code,
    byteOf s.openEntries.length, byteOf s.queue.sealed.length ]
  ++ wordBytes (BitVec.ofNat 16 (entriesBytes s.openEntries))
  ++ wordBytes (BitVec.ofNat 16 s.freePool)
  ++ [ byteOf s.freeDescriptors, s.window.completion ]
  ++ wordBytes s.journal.lastSeq
  ++ [ s.journal.lastTag, s.deviceStatesByte, s.sealedTag 0, s.sealedTag 1, s.sealedTag 2, byteOf s.applyProgress ]
  ++ wordBytes s.journal.nextSeq
  ++ wordBytes (BitVec.ofNat 16 s.journal.head)
  ++ [ indexByte s.window.ffDevice ]
  ++ wordBytes s.window.ffAddr
  ++ [ indexByte s.engine.faultDevice ]

end Sys2Proof.Machine
end

