-- ==== Sys2Proof/Machine/Engine.lean ====
section
/-! DEFINITION. The commit engine (chapter 3, chapter 10), with the journal unit's placement, live record and head
(section 4.3) and the retirement of a group (R58). Operations here place requests; the arbiter grants them. -/

namespace Sys2Proof.Machine

/-- The oldest sealed group (R44). -/
def State.oldestSealed (s : State) : Option Group := s.queue.sealed.head?

/-- The engine works on no group: it is IDLE, or in a PAUSED that remembers IDLE (R49). -/
def Engine.restful (e : Engine) : Bool :=
  decide (e.state = .idle) || decide (e.state = .paused ∧ e.remembered = some .idle)

/-- The current group: none while the engine is IDLE or paused in IDLE, else the oldest sealed group (R44, R49). -/
def State.currentGroup (s : State) : Option Group := if s.engine.restful then none else s.oldestSealed

def State.updCurrent (f : Group → Group) (s : State) : State :=
  s.updQueue fun q =>
    { q with
      sealed :=
        match q.sealed with
        | [] => []
        | g :: gs => f g :: gs }

/-- The ring location in force (R69). -/
def State.ring (s : State) : PageRange := s.setup.tables.ring.getD { dev := 0, firstPage := 0, pageCount := 0 }

def State.ringPageSize (s : State) : Nat := s.setup.tables.pageSize s.ring.dev

/-- Placement of a new record from the head: at the head if it fits before the end of the ring, else at the ring's
first page (R74). -/
def State.placementFor (es : List Entry) (s : State) : Placement :=
  let count := pagesFor (recordSize es) s.ringPageSize
  if (s.journal.head - s.ring.firstPage) + count ≤ s.ring.pageCount then { first := s.journal.head, count := count }
  else { first := s.ring.firstPage, count := count }

/-- The page after a record: the next ring page, or the ring's first page after its last (R70). -/
def State.pageAfter (p : Placement) (s : State) : Nat :=
  if (p.first - s.ring.firstPage) + p.count < s.ring.pageCount then p.first + p.count else s.ring.firstPage

/-- A step begins: its phase and pointer, the attempt counter at 0, one internal request (R50, R59). -/
def State.beginStep (p : Phase) (pointer : Nat) (s : State) : State :=
  (s.updEngine fun e => { e with state := .phase p, pointer := pointer, attempts := 0, remembered := none }).placeInternal .engine

/-- The group at the start of a journal pass; its placement is fixed at the first (R52). -/
def Group.passBegun (p : Placement) (g : Group) : Group :=
  { g with state := .journaling, passes := g.passes + 1, placement := some (g.placement.getD p) }

/-- A journal pass of the oldest sealed group, which becomes the current group, begins at its first page, and its
record is live (R49, R52, R75). -/
def State.beginPass (s : State) : State :=
  match s.oldestSealed with
  | none => s
  | some g =>
    ((s.updCurrent (Group.passBegun (s.placementFor g.entries))).updJournal fun j =>
      { j with live := some (g.placement.getD (s.placementFor g.entries)) }).beginStep .journal 0

/-- An IDLE engine starts the oldest sealed group if the part is CONFIGURED and no pause is requested (R51). -/
def State.startGroup (s : State) : State :=
  if s.engine.state = .idle ∧ s.configured ∧ s.engine.pauseRequested = false then
    match s.oldestSealed with
    | none => s
    | some g =>
      if g.state = .applying then
        (s.updJournal fun j => { j with live := g.placement }).beginStep .apply g.progress
      else s.beginPass
  else s

def State.engineIdle (s : State) : State :=
  s.updEngine fun e => { e with state := .idle, attempts := 0, remembered := none }

/-- The engine goes to its next step (R51, R52, R65). -/
def State.takeNext (n : NextStep) (s : State) : State :=
  match n with
  | .idle => s.engineIdle.startGroup
  | .freshPass => s.beginPass
  | .step p k => s.beginStep p k

/-- The engine enters PAUSED, remembering the step to be run next (R64). -/
def State.enterPaused (n : NextStep) (s : State) : State :=
  s.updEngine fun e => { e with state := .paused, attempts := 0, remembered := some n }

/-- A step boundary that no failure halts: a pause request stops the engine there, otherwise the next step comes
(R50, R64). -/
def State.atBoundary (n : NextStep) (s : State) : State :=
  if s.engine.pauseRequested then s.enterPaused n else s.takeNext n

/-- The device the current step is aimed at: the entry's in APPLY, else the ring device (R50). -/
def State.stepDevice (s : State) : Nat :=
  match s.engine.state, s.currentGroup with
  | .phase .apply, some g => (g.entries[s.engine.pointer]?.map Entry.dev).getD 0
  | _, _ => s.ring.dev

/-- What a halted engine remembers: the phase and pointer of the failed step (R62). -/
def Engine.failedStep (e : Engine) : Option NextStep :=
  match e.state with
  | .phase p => some (.step p e.pointer)
  | _ => e.remembered

/-- The engine enters HALTED (R62); during replay configuration entry then opens the upstream port (R171, R180). -/
def State.halt (code : FaultCode) (s : State) : State :=
  let s' := s.updEngine fun e =>
    { e with
      state := .halted, remembered := e.failedStep, faultCode := code, faultDevice := some s.stepDevice }
  if s.setup.phase = .replaying then s'.openGate else s'

/-- The address of a byte of the current group's record. -/
def State.recordAddr (g : Group) (offset : Nat) (s : State) : Word :=
  BitVec.ofNat 16 ((g.placement.map Placement.first).getD 0 * s.ringPageSize + offset)

/-- The bytes of a record that fall in its page k (R52). -/
def pageOfRecord (pageSize k : Nat) (image : List Byte) : List Byte := (image.drop (k * pageSize)).take pageSize

/-- The record image of a group at its placement (R52, R71). -/
def Group.image (g : Group) : List Byte := recordImage g ((g.placement.map Placement.count).getD 0)

/-- The frame of the current step (R52, R53, R55 to R57). -/
def State.stepFrame (s : State) : Activity :=
  match s.engine.state, s.currentGroup with
  | .phase .journal, some g =>
    .write (s.addrOf s.ring.dev) (s.recordAddr g (s.engine.pointer * s.ringPageSize))
      (pageOfRecord s.ringPageSize s.engine.pointer g.image)
  | .phase .verify, some g => .read (s.addrOf s.ring.dev) (s.recordAddr g 0) (recordSize g.entries)
  | .phase .commit, some g => .write (s.addrOf s.ring.dev) (s.recordAddr g 12) (wordBytes (~~~ g.seqOrZero))
  | .phase .apply, some g =>
    match g.entries[s.engine.pointer]? with
    | some e => .write (s.addrOf e.dev) e.start e.data
    | none => .none
  | .phase .retire, some g => .write (s.addrOf s.ring.dev) (s.recordAddr g 14) (wordBytes g.seqOrZero)
  | _, _ => .none

/-! ## Retirement (R58) -/

/-- The setup unit's part of a retirement: a group that touched the setup area makes a reload due, or a copy stale
(R16, R19). -/
def Setup.afterRetirement (touches : Bool) (st : Setup) : Setup :=
  if touches then
    match st.reload with
    | .none => { st with reload := .waitRead }
    | .waitRead => st
    | .reading => { st with stale := true }
    | .waitSwap => { st with reload := .waitRead, holding := none }
  else st

/-- The effects of a retirement on every block but the engine (R58, R76, R109, R113). -/
def State.removeRetired (g : Group) (s : State) : State :=
  let head := (s.journal.live.map fun p => s.pageAfter p).getD s.journal.head
  (((s.updQueue fun q => { q with sealed := q.sealed.tail }).updJournal fun j =>
      { j with lastSeq := g.seqOrZero, lastTag := g.tagOrZero, head := head, live := none }).updWindow fun w =>
        { w with done := true, completion := w.completion + 1 }).updSetup (Setup.afterRetirement g.touchesSetup)

/-- The setup unit enters READING: a load begins, its attempts counted from 0, or the load whose refused read was left
to be repeated goes on with its count (R8, R16; log 30). -/
def Setup.startReading (st : Setup) : Setup :=
  { st with
    reload := .reading, stale := false, repeatDue := false
    readAttempts := if st.repeatDue then st.readAttempts else 0 }

/-- The setup unit requests the read of the setup area for a reload (R16). -/
def State.requestReload (s : State) : State := (s.updSetup Setup.startReading).placeInternal .setupRead

/-- The end of REPLAYING without a halt (R180, R181). -/
def State.replayEnd (s : State) : State :=
  if s.setup.phase = .replaying ∧ s.engine.state = .idle ∧ s.queue.sealed = [] ∧ s.store.claims = [] then
    if s.setup.reload = .none then s.openGate
    else (s.updSetup fun st => { st with phase := .reloading }).requestReload
  else s

/-- The retirement of the current group, one event (R58): its effects, the waiting load claims, then the engine at
its step boundary. -/
def State.retire (s : State) : State :=
  match s.currentGroup with
  | none => s
  | some g => (((s.removeRetired g).takeClaims).atBoundary .idle).replayEnd

/-! ## The end of a step -/

/-- A write step has succeeded: the poll after its frame is acknowledged (R52, R55 to R58). -/
def State.writeStepDone (s : State) : State :=
  match s.engine.state, s.currentGroup with
  | .phase .journal, some g =>
    if s.engine.pointer + 1 < (g.placement.map Placement.count).getD 0 then
      s.atBoundary (.step .journal (s.engine.pointer + 1))
    else (s.updCurrent fun g => { g with state := .verifying }).atBoundary (.step .verify 0)
  | .phase .commit, some _ => (s.updCurrent fun g => { g with state := .applying }).atBoundary (.step .apply 0)
  | .phase .apply, some g =>
    let s' := s.updCurrent fun g => { g with progress := s.engine.pointer + 1 }
    if s.engine.pointer + 1 < g.entries.length then s'.atBoundary (.step .apply (s.engine.pointer + 1))
    else (s'.updCurrent fun g => { g with state := .retiring }).atBoundary (.step .retire 0)
  | .phase .retire, some _ => s.retire
  | _, _ => s

/-- The verify read has ended (R53, R54). -/
def State.verifyDone (bs : List Byte) (s : State) : State :=
  match s.currentGroup with
  | none => s
  | some g =>
    if verifyMatches g.image bs then
      (s.updCurrent fun g => { g with state := .committing }).atBoundary (.step .commit 0)
    else if g.passes < Config.passMax then
      (s.updCurrent fun g => { g with state := .journaling }).atBoundary .freshPass
    else s.halt .verifyFailed

/-- A frame or read of the engine was refused: one attempt more has been made (R59, R60). -/
def State.countAttempt (s : State) : State := s.updEngine fun e => { e with attempts := e.attempts + 1 }

/-- After a refused attempt: the same frame again, or the step's failure (R59, R60). -/
def State.repeatOrHalt (code : FaultCode) (s : State) : State :=
  if s.engine.attempts < Config.attemptMax then s.placeInternal .engine else s.halt code

end Sys2Proof.Machine
end

