-- ==== Sys2Proof/Machine/Entry.lean ====
section
/-! DEFINITION. The setup unit's loads and reloads (sections 1.4 to 1.6), configuration entry with its fallback
(chapter 11), the ring scan (section 4.5) and the setup swap (R18). Operations here place requests; the arbiter
grants them. -/

namespace Sys2Proof.Machine

/-! ## Loads -/

/-- A load's setup read is requested, the attempts counted from 0 (R8). -/
def State.requestLoad (s : State) : State :=
  (s.updSetup fun st => { st with readAttempts := 0 }).placeInternal .setupRead

/-- A relayed home write that can have changed the record requests a load attempt (R20): one request is kept; a
request before the read is granted adds nothing. The grant meant is the attempt's first: a request that comes while the
repeat of a refused read waits for its own grant is kept for a further attempt, where both clauses of R20 fit. That is
the model's choice (log 36). -/
def Setup.noteLoadRequest (st : Setup) : Setup :=
  match st.attempt with
  | .none => { st with attempt := .awaitPoll }
  | .awaitPoll => st
  | .requested => st
  | .granted => { st with kept := true }

/-- A load attempt made while UNCONFIGURED is rejected (R15, R21); a kept request starts one further attempt (R20). -/
def State.rejectAttempt (r : Reject) (s : State) : State :=
  let s' := s.rejectSetup r
  if s.setup.kept then
    (s'.updSetup fun st => { st with attempt := .requested, kept := false, loadBuffer := none }).requestLoad
  else s'.updSetup fun st => { st with attempt := .none, loadBuffer := none }

/-- The fallback: configuration entry ends UNCONFIGURED, the tables abandoned, the gate opened (R179). -/
def State.fallback (r : Reject) (s : State) : State :=
  ((((((s.rejectSetup r).updSetup fun st =>
      { st with config := .unconfigured, tables := Tables.defaults, attempt := .none, kept := false, loadBuffer := none }).updQueue
        fun q => { q with openGroup := none }).updDown fun d => { d with states := d.states.take 1 }).updPort fun p =>
          { p with pointers := { p.pointers with p1 := 0, p2 := 0, p3 := 0 } }).updJournal fun j =>
            { j with scan := none }).openGate

/-- A failed reload while CONFIGURED (R17); in RELOADING configuration entry then opens the gate (R181). -/
def State.rejectReload (r : Reject) (s : State) : State :=
  let s' := (s.rejectSetup r).updSetup fun st => { st with reload := .none, holding := none, stale := false }
  if s.setup.phase = .reloading then s'.openGate else s'

/-- A reload read whose bytes a retirement has made stale ends: the setup unit waits to read again (R19). -/
def State.staleReadEnded (s : State) : State :=
  s.updSetup fun st => { st with reload := .waitRead, stale := false, holding := none }

/-- A load ends without an accepted record, by the kind of load (R15, R17, R177, R179). -/
def State.loadFailed (r : Reject) (s : State) : State :=
  match s.setup.config with
  | .configured => if s.setup.stale then s.staleReadEnded else s.rejectReload r
  | .unconfigured => if s.setup.phase = .loading then s.fallback r else s.rejectAttempt r

/-- A frame caught by the gate (R119): it is dead, and a byte it holds is answered with a NAK. A frame between its
start and its device byte is caught too. -/
def State.catchFrame (s : State) : State :=
  let s' := if s.port.hold = .a then s.refuseHeld else s.killFrame
  ((s'.withdraw .read).withdraw .relay).updRead fun r =>
    { r with phase := if r.phase = .requested then .dead else r.phase }

/-- The relay of a frame caught by the gate has not been granted: it is gone with its request (R119, R150). -/
def State.dropRelay (s : State) : State := s.updRelay fun _ => none

/-- The ring scan begins with the header of the ring's first page (R79). -/
def State.startScan (s : State) : State :=
  (s.updJournal fun j => { j with scan := some { stage := .headers 0, attempts := 0, cands := [] } }).placeInternal .scanRead

/-- The event of acceptance (R2, R44, R49, R119, R124, R153, R177, R183). -/
def State.acceptLoad (bs : List Byte) (s : State) : State :=
  let t := tablesOf bs
  let caught := if s.setup.phase = .loading ∨ s.port.frame = none then s else s.catchFrame.dropRelay
  (((((caught.updSetup fun st =>
      { st with
        config := .configured, reject := .none, tables := t, loadBuffer := some bs
        attempt := .none, kept := false, phase := .scanning }).updQueue fun q => { q with openGroup := some Group.empty }).updDown
        fun d => { d with states := d.states.take 1 ++ List.replicate (t.devices.length - 1) .busy }).updPort fun p =>
          { p with
            gate := .refusing
            pointers := { p0 := BitVec.ofNat 16 (p.pointers.p0.toNat % t.capacity 0), p1 := 0, p2 := 0, p3 := 0 } }).updEngine
            fun e =>
              { e with
                pauseRequested := false
                state := if e.state = .paused then .idle else e.state
                remembered := if e.state = .paused then none else e.remembered }).startScan

/-- The setup read has ended with 128 bytes (R8, R9, R15, R16, R17, R19, R177). -/
def State.loadRead (bs : List Byte) (s : State) : State :=
  match s.setup.config with
  | .configured =>
    if s.setup.stale then s.staleReadEnded
    else
      match validate s.setup.straps bs with
      | .none => s.updSetup fun st => { st with reload := .waitSwap, holding := some bs }
      | r => s.rejectReload r
  | .unconfigured =>
    match validate s.setup.straps bs with
    | .none => s.acceptLoad bs
    | r => s.loadFailed r

/-- An engine step waits for its grant (R50). -/
def State.stepWaits (s : State) : Bool := decide (.engine ∈ s.down.intReqs)

/-- A reload whose read was refused waits to read again: the step that waits for its grant may fail, and READING cannot
coexist with a halt (R16, R170; log 30). -/
def Setup.holdRepeat (st : Setup) : Setup := { st with reload := .waitRead, repeatDue := true }

/-- A setup read was refused: NO_ANSWER at the third attempt, and before it a new request for the read at the tail of
the internal requests (R8, R150). Where the tail would place a reload's repeat behind an engine step, which could fail
before the read has ended, the reload goes back to WAIT_READ, and the repeat is requested under the conditions of R16
(R51, R170). That is the model's choice (log 30). -/
def State.setupReadRefused (s : State) : State :=
  let s' := s.updSetup fun st => { st with readAttempts := st.readAttempts + 1 }
  if s'.setup.readAttempts < Config.attemptMax then
    if s'.setup.reload = .reading ∧ s'.stepWaits then s'.updSetup Setup.holdRepeat else s'.placeInternal .setupRead
  else s'.loadFailed .noAnswer

/-! ## The ring scan (R79 to R83) -/

/-- The scan fails: the fallback with BAD_RING (R83, R179). -/
def State.scanFailed (s : State) : State := s.fallback .badRing

/-- A scan read was refused (R83). -/
def State.scanReadRefused (s : State) : State :=
  match s.journal.scan with
  | none => s
  | some sc =>
    if sc.attempts + 1 < Config.attemptMax then
      (s.updJournal fun j => { j with scan := some { sc with attempts := sc.attempts + 1 } }).placeInternal .scanRead
    else s.scanFailed

/-- The journal unit's state as the scan's results set it (R81). -/
def Journal.scanned (ring : PageRange) (after : Placement → Nat) (cs : List Candidate) (j : Journal) : Journal :=
  let newest := newestPassing (newestFirst cs)
  let retired := newestPassing ((newestFirst cs).filter Candidate.retired)
  { j with
    head :=
      match newest with
      | some c => after { first := ring.firstPage + c.offset, count := headerPageCount c.header }
      | none => ring.firstPage
    nextSeq := (newest.map fun c => headerSeq c.header + 1).getD 0x0001
    lastSeq := (retired.map fun c => headerSeq c.header).getD 0x0000
    lastTag := (retired.map fun c => headerTag c.header).getD 0x00
    live := none
    scan := none }

/-- Every record to be replayed can be applied under the tables in force (R82). -/
def replayable (t : Tables) (cs : List Candidate) : Bool :=
  (replayCandidates cs).all fun c => (c.items?.getD []).all (itemApplicable t)

/-- The end of the scan (R81, R82, R178): results, test, claims, and replay or the open gate. A record that cannot
be applied fails the scan before the journal unit's values are set (R179, log 12). -/
def State.finishScan (cs : List Candidate) (s : State) : State :=
  if replayable s.setup.tables cs = false then s.scanFailed
  else
    let s1 := s.updJournal (Journal.scanned s.ring (fun p => s.pageAfter p) cs)
    match replayCandidates cs with
    | [] => s1.openGate
    | c :: rest =>
      let claims := (c :: rest).map (replayGroup s.setup.straps s.ring.firstPage)
      (((s1.updSetup fun st => { st with phase := .replaying }).updStore fun st => { st with claims := claims }).takeClaims).startGroup

/-- The next whole read of the scan, or its end (R80, R81). -/
def State.scanRecords (cs : List Candidate) (s : State) : State :=
  match nextRecordRead cs with
  | some c =>
    (s.updJournal fun j =>
      { j with scan := some { stage := .record c.offset, attempts := 0, cands := cs } }).placeInternal .scanRead
  | none => s.finishScan cs

/-- The header of one ring page has been read (R79). -/
def State.scanHeader (offset : Nat) (cs : List Candidate) (bs : List Byte) (s : State) : State :=
  let cs' :=
    if isCandidate s.ring.pageCount offset bs then cs ++ [{ offset := offset, header := bs, verdict := .unread }] else cs
  if offset + 1 < s.ring.pageCount then
    (s.updJournal fun j =>
      { j with scan := some { stage := .headers (offset + 1), attempts := 0, cands := cs' } }).placeInternal .scanRead
  else s.scanRecords cs'

/-- The verdict on one candidate (R80). -/
def judge (pageSize offset : Nat) (bs : List Byte) (c : Candidate) : Candidate :=
  if c.offset = offset then
    { c with
      verdict :=
        match checkRecord pageSize c.header bs with
        | some items => .passed items
        | none => .failed }
  else c

/-- A candidate has been read whole (R80). -/
def State.scanRecord (offset : Nat) (cs : List Candidate) (bs : List Byte) (s : State) : State :=
  s.scanRecords (cs.map (judge s.ringPageSize offset bs))

/-- Where the scan's read starts and how many bytes it asks for (R79, R80). -/
def State.scanFrame (s : State) : Activity :=
  match s.journal.scan with
  | none => .none
  | some sc =>
    match sc.stage with
    | .headers o =>
      .read (s.addrOf s.ring.dev) (BitVec.ofNat 16 ((s.ring.firstPage + o) * s.ringPageSize)) Config.headerSize
    | .record o =>
      .read (s.addrOf s.ring.dev) (BitVec.ofNat 16 ((s.ring.firstPage + o) * s.ringPageSize))
        (Config.headerSize + ((sc.cands.find? fun c => decide (c.offset = o)).map fun c => headerPayloadLength c.header).getD 0)

/-! ## The steps of a reload (R16, R18) -/

/-- In WAIT_READ the setup read falls due (R16). -/
def State.reloadDue (s : State) : Bool :=
  decide (s.setup.reload = .waitRead ∧ s.queue.sealed = [] ∧ s.engine.state = .idle)

/-- The port stands between frames: the end of the last one is handled, with the winding up of a READ or a relay
downstream (R135, R146). That a poll or a bus clear which outlasts its frame counts as this winding up is the model's
choice (log 34). -/
def State.betweenFrames (s : State) : Bool := decide (s.port.frame = none ∧ s.down.ended = false)

/-- In WAIT_SWAP the swap falls due (R18). -/
def State.swapDue (s : State) : Bool :=
  decide (s.setup.reload = .waitSwap ∧ s.setup.holding.isSome ∧ s.openEntries = [] ∧ s.queue.sealed = []
    ∧ s.betweenFrames = true ∧ s.forward.one = .free ∧ s.forward.two = .free)

/-- The device state a device of the new table takes: its old one, or READY if it is new (R18). -/
def swappedState (old : Tables) (states : List DevState) (d : Device) : DevState :=
  match old.devices.findIdx? (fun o => decide (o.addr = d.addr)) with
  | some i => states.getD i .ready
  | none => .ready

/-- The shadow pointer of a new index: its device's old one reduced modulo the new capacity, or 0 (R18, R124). -/
def swappedPointer (old new : Tables) (ps : Pointers) (i : Nat) : Word :=
  match new.devices[i]? with
  | none => 0
  | some d =>
    match old.devices.findIdx? (fun o => decide (o.addr = d.addr)) with
    | some k => BitVec.ofNat 16 ((ps.get k).toNat % d.capacity)
    | none => 0

/-- What of the ring decides whether the head moves: device address, first page, page count, page size (R18, R84). -/
def Tables.ringPlace (t : Tables) : Option (Option DevAddr × Nat × Nat × Nat) :=
  t.ring.map fun r => (t.devices[r.dev]?.map Device.addr, r.firstPage, r.pageCount, t.pageSize r.dev)

/-- The swap, whole (R2, R18, R84); in RELOADING configuration entry then opens the gate (R181). -/
def State.swap (bs : List Byte) (s : State) : State :=
  let old := s.setup.tables
  let new := tablesOf bs
  let s' :=
    (((s.updSetup fun st =>
      { st with
        config := .configured, reject := .none, tables := new, reload := .none, holding := none, stale := false }).updDown
        fun d => { d with states := new.devices.map (swappedState old d.states) }).updPort fun p =>
          { p with
            pointers :=
              { p0 := swappedPointer old new p.pointers 0, p1 := swappedPointer old new p.pointers 1
                p2 := swappedPointer old new p.pointers 2, p3 := swappedPointer old new p.pointers 3 } }).updJournal
            fun j =>
              { j with
                head :=
                  if old.ringPlace = new.ringPlace then j.head
                  else (new.ring.map PageRange.firstPage).getD j.head }
  if s.setup.phase = .reloading then s'.openGate else s'

end Sys2Proof.Machine
end

