-- ==== Sys2Proof/Machine/Arbiter.lean ====
section
/-! DEFINITION. The downstream port's arbiter (section 9.2): which request is granted, the check of the device at the
grant (R154), what an operation sends, and how a failed operation ends for its requester (R61, R87, R140, R142,
R160, R162). -/

namespace Sys2Proof.Machine

/-! ## What an operation sends (R148) -/

/-- Bytes of a posted write's frame: the first run, then the second (R139). -/
def runsBytes (rs : List Run) : List Byte := rs.flatMap Run.data

/-- The word address a read of a device starts from: its shadow pointer (R88, R90). -/
def State.readHeader (s : State) : Activity := .header (s.addrOf s.read.dev) (s.pointer s.read.dev)

/-- The frame of a granted operation on a READY device is sent (R139, R142, R50, R8, R79, R88). -/
def State.sendFrame (r : Requester) (s : State) : State :=
  match r with
  | .posted i =>
    s.setActivity (.write (s.addrOf (s.forward.get i).dev) (s.forward.get i).start (runsBytes (s.forward.get i).runs))
  | .read => if s.read.phase = .opening then s.setActivity s.readHeader else s
  | .relay => s.updRelay fun o => o.map fun r => { r with stage := .byteSent, opened := true }
  | .engine => s.setActivity s.stepFrame
  | .setupRead => s.setActivity (.read (homeAddr s.setup.straps) (BitVec.ofNat 16 (setupBase s.setup.straps)) Config.areaSize)
  | .scanRead => s.setActivity s.scanFrame
  | .homePoll => s

/-! ## Failed operations -/

/-- Why an operation fails without a refusal (R154, R155, R160). -/
inductive OpFailure where
  | deviceFaulted
  | pollExpired
  | busStuck
  deriving DecidableEq, Repr

/-- The engine's fault code for a failure (R61). -/
def OpFailure.code : OpFailure → FaultCode
  | .deviceFaulted => .deviceFaulted
  | .pollExpired => .pollTimeout
  | .busStuck => .busStuck

/-- A POSTED frame held for the forward queue goes on when a slot is free: the slot reserved, the byte acknowledged,
the pointer loaded (R130, R137). -/
def State.releasePosted (s : State) : State :=
  match s.port.frame with
  | none => s
  | some f =>
    if f.cls = .posted ∧ s.port.hold = .a ∧ f.dead = false ∧ s.forward.freeSlot.isSome then
      match f.dev, f.start with
      | some d, some a => ((s.reserveSlot d a).setPointer d a).releaseHold.answerWith true
      | _, _ => s
    else s

/-- A posted write's operation ends: its slot is FREE, which may release a held POSTED frame (R139). -/
def State.slotDone (i : SlotId) (s : State) : State := (s.setSlot i .free).releasePosted

/-- A READ frame whose device byte is not yet answered is refused (R87, R88, R96). -/
def State.refuseRead (s : State) : State := s.refuseHeld.updRead fun r => { r with phase := .dead }

/-- A READ frame fills with FFh from the byte awaited on (R95, R96, R129). -/
def State.fillRead (s : State) : State :=
  let s' := s.updRead fun r => { r with phase := .filling }
  if s.port.hold = .b then s'.releaseHold.sendUp 0xFF else s'

/-- A granted READ frame fails; it keeps the grant to the end of its upstream frame, and returns it here if that has
ended (R87, R96, R160; log 10). In DRAINED, FILLING and DEAD, for which R96 has no row, the phase stays: the model's
choice (log 31). -/
def State.readFailed (s : State) : State :=
  if s.down.ended then s.freeBus
  else
    let s' := s.endPoll.setActivity .none
    match s.read.phase with
    | .opening => s'.refuseRead
    | .streaming => s'.fillRead
    | _ => s'

/-- The upstream side of a relay that has lost its bus: a held byte is refused and the frame dead, a read fills with
FFh (R145; with nothing held, log 11). A frame that a passed-on repeated start has begun, its device byte still to
come, has nothing held and no class: it stays live, and its device byte is classed afresh. R145 and R162 do not say,
and this is the model's choice (log 11). -/
def State.relayLost (s : State) : State :=
  match s.port.frame with
  | none => s
  | some f =>
    if f.cls = .relay then
      if s.port.hold = .a then s.refuseHeld
      else if s.port.hold = .b then
        (s.releaseHold.sendUp 0xFF).updFrame fun f => { f with filling := true }
      else if f.direction = some .read then s.updFrame fun f => { f with filling := true }
      else s.killFrame
    else s

/-- A load attempt whose relayed write's poll did not end in an acknowledgement is rejected (R20, log 8). -/
def State.relayPollFailed (s : State) : State :=
  if s.setup.attempt = .awaitPoll then s.rejectAttempt .noAnswer else s

/-- A granted relay fails (R142, R160; log 11): a poll after its close ends it, a poll before its frame or a FAULTED
device refuses the held byte, and BUS_STUCK keeps the grant until the relay closes. -/
def State.relayFailed (c : OpFailure) (s : State) : State :=
  if s.down.ended then s.freeBus.relayPollFailed
  else
    match c with
    | .busStuck => (s.endPoll.relayLost).updRelay fun o => o.map fun r => { r with stage := .stuck, opened := false }
    | _ => (s.freeBus.refuseHeld).dropRelay

/-- An operation fails, and ends as its requester's rule gives (R61, R140, R154, R160, R162). -/
def State.failOp (r : Requester) (c : OpFailure) (s : State) : State :=
  match r with
  | .posted i => ((s.freeBus).forwardFailure (s.forward.get i).dev (s.forward.get i).start).slotDone i
  | .read => s.readFailed
  | .relay => s.relayFailed c
  | .engine => s.freeBus.halt c.code
  | .setupRead => s.freeBus.loadFailed .noAnswer
  | .scanRead => s.freeBus.scanFailed
  | .homePoll => s.freeBus.fallback .noAnswer

/-! ## The grant -/

/-- The device a granted operation is aimed at, if the part keeps a state for it (R154). -/
def State.target (r : Requester) (s : State) : Option Nat :=
  match r with
  | .posted i => some (s.forward.get i).dev
  | .read => some s.read.dev
  | .relay => if (s.relay.bind Relay.home).isSome then some 0 else none
  | .engine => some s.stepDevice
  | .setupRead => some 0
  | .scanRead => some s.ring.dev
  | .homePoll => none

/-- What the grant itself changes at the requester (R20, R85, R139). -/
def State.granted (r : Requester) (s : State) : State :=
  match r with
  | .posted i =>
    match s.forward.get i with
    | .waiting d rs => s.setSlot i (.performing d rs)
    | _ => s
  | .read => s.updRead fun r => { r with phase := .opening }
  | .relay => s.updRelay fun o => o.map fun r => { r with stage := .polling }
  | .setupRead => s.updSetup fun st => { st with attempt := if st.attempt = .requested then .granted else st.attempt }
  | _ => s

/-- A relay to an address that is not served opens with the controller's device byte (R142). -/
def State.openRelay (s : State) : State :=
  s.updRelay fun o => o.map fun r => { r with stage := .deviceSent, opened := true }

/-- The grant check (R154), and the operation's beginning. -/
def State.openGrant (r : Requester) (s : State) : State :=
  match r with
  | .homePoll => s.pollAtGrant (homeAddr s.setup.straps)
  | _ =>
    let s' := s.granted r
    match s'.target r with
    | none => s'.openRelay
    | some i =>
      match s'.devState i with
      | .ready => s'.sendFrame r
      | .busy => s'.pollAtGrant (s'.addrOf i)
      | .faulted => s'.failOp r .deviceFaulted

/-- A request leaves its queue with the grant: detection count 0, the speed in force (R151, R156, R157). -/
def State.award (r : Requester) (s : State) : State :=
  s.updDown fun d => { d with grant := some r, detections := 0, ended := false, speed := s.setup.tables.speed }

/-- The choice of R151: the request granted and the queues and fairness counter after it. `raced` says that the
internal request waiting was placed at the boundary itself, so that R152's free order decides the counter. -/
def State.choose (raced : Bool) (s : State) : Option (Requester × State) :=
  match s.down.upFifo, s.down.intReqs with
  | [], [] => none
  | u :: us, [] => some (u, s.updDown fun d => { d with upFifo := us })
  | [], i :: is => some (i, s.updDown fun d => { d with intReqs := is, fairness := 0 })
  | u :: us, i :: is =>
    if Config.fairnessMax ≤ s.down.fairness then
      some (i, s.updDown fun d => { d with intReqs := is, fairness := 0 })
    else if raced then
      some (u, { s.updDown (fun d =>
        { d with upFifo := us, fairness := if Config.requestFirst s.freeIndex then d.fairness + 1 else d.fairness }) with
        freeIndex := s.freeIndex + 1 })
    else some (u, s.updDown fun d => { d with upFifo := us, fairness := d.fairness + 1 })

/-- Grants while the bus is free and a request waits (R151). A grant whose operation fails at its check is followed
by the next; `fuel` bounds their number. A request placed by such a failure, as a kept load request is, counts as
placed before the boundary of the grant that follows: R152 leaves the order open, and this one is the model's choice
(log 29). -/
def State.grantLoop : Nat → Bool → State → State
  | 0, _, s => s
  | fuel + 1, raced, s =>
    match s.down.grant with
    | some _ => s
    | none =>
      match s.choose raced with
      | none => s
      | some (r, s') => State.grantLoop fuel false ((s'.award r).openGrant r)

/-- The arbiter at the end of an event that began in state s0 (R151, R152). -/
def State.conclude (s0 s : State) : State :=
  s.grantLoop (s.down.upFifo.length + s.down.intReqs.length + 4)
    (s0.down.grant.isSome && s0.down.intReqs.isEmpty)

/-! ## Bus stuck (R157 to R160) -/

/-- BUS_STUCK is reported: every device with a state is FAULTED, a poll in progress counts as expired, the operation
ends as its requester's rule gives (R160). -/
def State.reportStuck (r : Requester) (s : State) : State :=
  (s.updDown fun d =>
    { d with states := d.states.map (fun _ => .faulted), poll := none, clearing := false, activity := .none }).failOp r .busStuck

/-- A load attempt that waits for its relayed write's operation places its setup read, when the poll is acknowledged
(R20) or when a bus clear in the closing conditions leaves nothing to poll (log 33). -/
def State.attemptPolled (s : State) : State :=
  if s.setup.attempt = .awaitPoll then (s.updSetup fun st => { st with attempt := .requested }).requestLoad else s

/-- A bus clear has succeeded: the operation goes on within its grant (R159, R96, R145). In DRAINED, FILLING and DEAD,
for which R96 has no row, no header is sent and the phase stays: the model's choice (log 31). In the poll made at a
relayed home write's grant R145's row for a cleared bus (the held byte refused, the frame dead, nothing retried) and
R159's row for a poll (its next attempt at once) both fit. DESIGN CHOICE, unsafe: the poll goes on, and the byte stays
held (log 40). -/
def State.resumeAfterClear (r : Requester) (s : State) : State :=
  let s' := s.updDown fun d => { d with clearing := false }
  match s.down.poll with
  | some p => s'.updDown fun d => { d with poll := some { p with attempt := true } }
  | none =>
    if s.down.ended then s'.freeBus.attemptPolled
    else match r with
    | .read =>
      match s.read.phase with
      | .opening => s'.setActivity s.readHeader
      | .streaming => s'.setActivity s.readHeader
      | _ => s'.setActivity .none
    | .relay => (s'.freeBus.relayLost).dropRelay
    | .homePoll => s'
    | _ => s'.sendFrame r

/-! ## Steps of the setup unit that fall due by themselves (R16, R18) -/

/-- The read of a reload is requested, and granted if the bus is free (R16, R152). Where it falls due at a retirement's
boundary it reaches the arbiter after that boundary's grant, so that an upstream grant made there is not counted:
R152 leaves the order open, and this one is the model's choice (log 29). -/
def State.takeReloadRequest (s : State) : State := s.conclude s.requestReload

/-- The holding copy replaces the tables in force (R18). -/
def State.takeSwap (s : State) : State :=
  match s.setup.holding with
  | some bs => s.swap bs
  | none => s

/-- "As soon as" (R16) and "at the first moment" (R18): a step of the setup unit that is due is taken before any
other event (log 6). -/
def State.takeSetup (s : State) : State :=
  if s.reloadDue then s.takeReloadRequest else if s.swapDue then s.takeSwap else s

/-- Closing conditions are on the segment, and no bus clear is under way (R157). -/
def State.closingDue (s : State) : Bool :=
  match s.down.activity with
  | .closing _ _ => !s.down.clearing
  | _ => false

/-- The closing conditions have been sent (R94, R97, R144, R145, R149; log 33). -/
def State.takeClosing (s : State) : State :=
  match s.down.activity with
  | .closing _ home => if s.down.clearing then s else s.conclude (s.closed home)
  | _ => s

/-- What comes about with no event that a row stands for, when no command waits: closing conditions are sent, and the
clock pulse before a hold ends (log 1, log 32, log 33). -/
def State.elapse (s : State) : State := s.takeClosing.holdClock

/-- What a meaning answers, or another answer where it refuses. -/
def unlessRefused (r alt : Result) : Result :=
  match r with
  | .refused _ => alt
  | _ => r

/-- An event's meaning: after the step of the setup unit that is due, and within the closing conditions under way where
the event can come there, else after them (log 6, log 33). -/
def onEvent (f : State → Result) (s : State) : Result :=
  let s' := s.takeSetup
  if s'.closingDue then unlessRefused (f s') (f s'.takeClosing.takeSetup) else f s'

end Sys2Proof.Machine
end

