-- ==== Sys2Proof/Machine/Marks.lean ====
section
/-! DEFINITION. The marks (section 6.2): what each does to the block that acts on it, its result, and its recording
by the control window (R100, R101). -/

namespace Sys2Proof.Machine

/-- DISCARD: the OPEN group's entries freed, LOST cleared (R36, R102). -/
def markDiscard (s : State) : State × MarkResult :=
  ((s.updOpen Group.emptied).updQueue fun q => { q with lost := false }, .ok)

/-- The OPEN group sealed with a tag and sequence number (R46). -/
def Group.sealedWith (tag : Byte) (seq : Word) (g : Group) : Group :=
  { g with state := .sealed, tag := some tag, seq := some seq }

/-- SEAL: the tests of R45 in their order, then R46; an IDLE engine that is not paused starts at once (R51). -/
def markSeal (tag : Byte) (s : State) : State × MarkResult :=
  match s.setup.config, s.queue.openGroup with
  | .unconfigured, _ => (s, .unconfigured)
  | .configured, none => (s, .empty)
  | .configured, some g =>
    if s.queue.lost then (s, .lost)
    else if g.entries = [] then (s, .empty)
    else if Config.sealedMax ≤ s.queue.sealed.length then (s, .queueFull)
    else
      (((s.updQueue fun q =>
          { q with openGroup := some Group.empty, sealed := q.sealed ++ [g.sealedWith tag s.journal.nextSeq] }).updJournal
            fun j => { j with nextSeq := j.nextSeq + 1 }).startGroup, .ok)

def DevState.retried : DevState → DevState
  | .faulted => .ready
  | d => d

/-- A halted engine leaves HALTED at the beginning of the halted step, which is a step boundary (R63, R66). -/
def State.leaveHalted (s : State) : State :=
  let s1 := s.updEngine fun e => { e with faultCode := .none, faultDevice := none, attempts := 0 }
  let s2 := if s.engine.faultCode = .verifyFailed then s1.updCurrent fun g => { g with passes := 0 } else s1
  s2.atBoundary (s.engine.remembered.getD .idle)

/-- RETRY: FAULTED devices become READY and a halted engine runs its step again (R104, R163, R63). -/
def markRetry (s : State) : State × MarkResult :=
  let s' := s.updDown fun d => { d with states := d.states.map DevState.retried }
  if s.engine.state = .halted then (s'.leaveHalted, .ok) else (s', .notHalted)

/-- PAUSE (R64, R66, R105). -/
def markPause (s : State) : State × MarkResult :=
  let s' := s.updEngine fun e => { e with pauseRequested := true }
  if s.engine.state = .idle then (s'.enterPaused .idle, .ok) else (s', .ok)

/-- RESUME (R65, R66, R105). -/
def markResume (s : State) : State × MarkResult :=
  let s' := s.updEngine fun e => { e with pauseRequested := false }
  if s.engine.state = .paused then (s'.takeNext (s.engine.remembered.getD .idle), .ok)
  else if s.engine.pauseRequested then (s', .ok)
  else (s, .notPaused)

/-- CLEAR: the three latched notices and the forward-failure fields (R106). -/
def markClear (s : State) : State × MarkResult :=
  (s.updWindow fun w =>
    { w with done := false, fwdFail := false, setupNotice := false, ffDevice := none, ffAddr := 0x0000 }, .ok)

/-- An invalid mark has no effect (R107). -/
def markInvalid (s : State) : State × MarkResult := (s, .badMark)

/-- The mark a value chooses (section 6.2). -/
def markEffect (v : Byte) (s : State) : State × MarkResult :=
  if v = 0x00 then markDiscard s
  else if v.toNat ≤ 0xEF then markSeal v s
  else if v = 0xF0 then markRetry s
  else if v = 0xF1 then markPause s
  else if v = 0xF2 then markResume s
  else if v = 0xF3 then markClear s
  else markInvalid s

/-- The control window hands a mark on and records it with its result, one event (R100, R101). -/
def State.actOnMark (v : Byte) (s : State) : State :=
  (markEffect v s).1.updWindow fun w => { w with lastMark := v, result := (markEffect v s).2 }

end Sys2Proof.Machine
end

