-- ==== Sys2Proof/Machine/Frames.lean ====
section
/-! DEFINITION. How upstream frames end and what each end hands on (section 7.9), the close and the winding up of a
relay (R144, R145) and the end of a READ frame (R97). -/

namespace Sys2Proof.Machine

/-- The three ways a frame ends (section 7.9). -/
inductive EndKind where
  | stop
  | restart
  | abnormal
  deriving DecidableEq, Repr

/-- A relay leaves its frame (R144, R145, R150): an ungranted request is withdrawn; a poll or a bus clear under way
keeps the grant to its end (log 10, log 11); a relay with no downstream frame open returns the grant; and what follows
for an open one is `onOpen`, the relay gone and its upstream side ended. -/
def State.leaveRelay (onOpen : Relay → State → State) (s : State) : State :=
  match s.relay with
  | none => s
  | some r =>
    if s.serving .relay = false then s.dropRelay.withdraw .relay
    else if s.down.clearing ∨ s.down.poll.isSome then s.dropRelay.markEnded
    else if r.opened then onOpen r s.dropRelay.markEnded
    else s.dropRelay.freeBus

/-- A relayed home write that can have changed the setup record (R20). -/
def Relay.loads (st : Straps) (r : Relay) : Bool :=
  r.home.any fun h => h.byteRelayed && inArea (setupBase st) h.start.toNat

/-- The load request of a relay that closes with a stop (R20, R132). -/
def State.reportRelay (r : Relay) (s : State) : State :=
  if r.loads s.setup.straps then s.updSetup Setup.noteLoadRequest else s

/-- A relay closes at the controller's condition (R144): the condition has been passed on as a repeated start, or it is
the stop that closes the frame, which alone is left to send; a stop reports to the setup unit. -/
def State.closeRelay (report : Bool) (s : State) : State :=
  s.leaveRelay fun r s =>
    let s' := s.beginClosing .stop r.home.isSome
    if report then s'.reportRelay r else s'

/-- Who sends the byte of a relay that is on the downstream segment, if one is (R143). -/
def Relay.byteInFlight (r : Relay) : Option Direction :=
  match r.stage with
  | .deviceSent | .byteSent => some .write
  | .readByte => some .read
  | .requested | .polling | .opn | .readHeld | .drained | .restarted | .stuck => none

/-- What closes a relay that is wound up, its byte in progress finished (R145): in read direction a NAK for the held
byte and a stop; in write direction a repeated start and a stop, so that the memory writes nothing. Where the repeated
start or the NAK has been passed on before, and in read direction where no byte of the memory is held, a stop alone is
left: R145 does not say, and this is the model's choice (log 33). -/
def Relay.closing (r : Relay) : Closing :=
  match r.stage with
  | .readByte | .readHeld => .nakStop
  | .drained | .restarted => .stop
  | .requested | .polling | .deviceSent | .byteSent | .opn | .stuck =>
    match r.direction with
    | .write => .restartStop
    | .read => .stop

/-- What the winding up of an open relay has on the segment first (R145). -/
def Relay.windUp (r : Relay) : Activity :=
  match r.byteInFlight with
  | some d => .windUp d r.closing r.home.isSome
  | none => .closing r.closing r.home.isSome

/-- A relay is wound up (R145): the byte in progress is finished before the frame is closed. -/
def State.windUpRelay (s : State) : State := s.leaveRelay fun r s => s.setActivity r.windUp

/-- A relay at the end of a frame: a repeated start is passed on and the next device byte decides (R133, R144); an
abnormal end winds it up (R145); a stop closes it, and only a stop of a relayed frame that is not dead reports. A
further repeated start before any device byte is passed on too and leaves the relay open: R133 speaks of the next
device byte alone, and this is the model's choice (log 21). -/
def State.endRelay (k : EndKind) (f : Frame) (s : State) : State :=
  match s.relay with
  | none => s
  | some r =>
    match k with
    | .abnormal => s.windUpRelay
    | .stop => s.closeRelay (decide (f.cls = .relay ∧ f.dead = false))
    | .restart =>
      if r.stage = .stuck then s.closeRelay false
      else s.updRelay fun _ => some { r with stage := .restarted, naked := false }

/-- The downstream side of a granted READ frame at its frame's end (R97): a poll, a bus clear, a header or byte in
progress, or closing conditions under way are finished first, and the grant goes back at their end (log 10); a byte
held is answered with a NAK and the frame closed with a stop; with nothing on the segment the grant goes back. -/
def State.windUpRead (s : State) : State :=
  if s.down.clearing ∨ s.down.poll.isSome then s.markEnded
  else
    match s.down.activity with
    | .none => s.freeBus
    | .held => s.markEnded.beginClosing .nakStop false
    | .write _ _ _ | .read _ _ _ | .header _ _ | .byte | .windUp _ _ _ | .closing _ _ => s.markEnded

/-- A READ frame ends (R97): phase NONE, no snapshot; its downstream frame is wound up, or its request withdrawn. -/
def State.endRead (s : State) : State :=
  let s' := s.updRead fun r => { r with phase := .none, snapshot := none }
  if s.serving .read then s'.windUpRead else s'.withdraw .read

/-- At the stop of a POSTED frame with acknowledged data the COLLECTING slot is queued and its request placed; any
other end returns it to FREE (R138). -/
def State.endPosted (queued : Bool) (s : State) : State :=
  match s.forward.collectingSlot with
  | none => s
  | some i =>
    match s.forward.get i with
    | .collecting dev _ p =>
      if queued then (s.setSlot i (.waiting dev p.runs)).placeUp (.posted i) else s.setSlot i .free
    | _ => s

/-- A frame that ends with a header, no data byte and a well-placed condition is ADDRESS-SET whatever class its start
address gave (R121); nothing but its pointer remains of it (R122). -/
def Frame.classAtEnd (k : EndKind) (f : Frame) : FrameClass :=
  if k ≠ .abnormal ∧ f.headerBytes = 3 ∧ f.acked = 0 ∧ f.refusedData = false then .addressSet else f.cls

/-- What the end of a frame does to the block of its class, marks apart (R132 to R134). -/
def State.endBlock (k : EndKind) (f : Frame) (s : State) : State :=
  match f.classAtEnd k with
  | .staged => if k = .stop ∧ f.dead = false then s.finalise else s.releaseImage
  | .posted | .addressSet => s.endPosted (decide (k = .stop ∧ f.dead = false ∧ 0 < f.acked))
  | .read => s.endRead
  | .undecided | .mark | .refused | .relay => s

/-- The mark a frame's end hands to the control window: at a stop, of a MARK frame that is not dead, its mark byte
(R100, R132). -/
def Frame.handedMark (k : EndKind) (f : Frame) : Option Byte :=
  if k = .stop ∧ f.cls = .mark ∧ f.dead = false then f.markByte else none

/-- A frame ends: its block, its relay, the record discarded, then its mark acted on (R132 to R135). -/
def State.endFrame (k : EndKind) (s : State) : State :=
  match s.port.frame with
  | none => s
  | some f =>
    let s' := ((s.endBlock k f).endRelay k f).clearFrame
    match f.handedMark k with
    | some v => s'.actOnMark v
    | none => s'

end Sys2Proof.Machine
end

