-- ==== Sys2Proof/Machine/Reset.lean ====
section
/-! DEFINITION. Meanings of the reset commands (R173, R174, R176), and the two refusals every meaning may answer
with. -/

namespace Sys2Proof.Machine

/-- The event cannot reach the part in this state (log 3). -/
def outOfPlace : Result := .refused .outOfPlace

/-- The operand is none the spec gives the row (log 3). -/
def illFormed : Result := .refused .illFormed

/-- RESET (R173): all work is abandoned, every block stands at its reset value and every pin is released. -/
def execReset (s : State) : Result :=
  .next { State.reset with freeIndex := s.freeIndex, pending := s.pending }

/-- The part at the release of reset, before its home poll: straps sampled, reset values, phase POLLING (R1, R173,
R175). -/
def State.released (ha : BitVec 3) (sb : Bool) (s : State) : State :=
  { State.reset with
    inReset := false
    setup := { Setup.reset with straps := { ha := ha, sb := sb } }
    freeIndex := s.freeIndex
    pending := s.pending }

/-- RESET_RELEASE (R173, R176): configuration entry begins, its home poll placed and granted at once. -/
def execResetRelease (ha : BitVec 3) (sb : Bool) (s : State) : Result :=
  if s.inReset then
    let s' := s.released ha sb
    .next (s'.conclude (s'.placeInternal .homePoll))
  else outOfPlace

end Sys2Proof.Machine
end

