-- ==== Sys2Proof/Machine/Conditions.lean ====
section
/-! DEFINITION. Meanings of the conditions on the upstream segment (R118, R132 to R135) and of the two timers of the
upstream port (R128, R129, R131). -/

namespace Sys2Proof.Machine

/-! ## Conditions -/

/-- The frame in progress ends, and its end is followed by what it made due (R132 to R135, R151). -/
def State.concludeFrame (k : EndKind) (s : State) : State := s.conclude (s.endFrame k)

/-- A fall of USDA while USCL is high, well placed: a start with no frame in progress, a repeated start in one (R118,
R133; log 20). In reset no line is watched (R173). -/
def State.fallOfUsda (s : State) : Result :=
  if s.inReset then .next s
  else
    match s.port.frame with
    | none => .next s.beginFrame
    | some _ => if s.port.hold = .none then .next (s.concludeFrame .restart).beginFrame else outOfPlace

/-- START (R117, R118). -/
def execStart : State → Result := onEvent fun s => s.fallOfUsda

/-- REPEATED_START (R118, R133). -/
def execRepeatedStart : State → Result := onEvent fun s => s.fallOfUsda

/-- STOP (R118, R132): with no frame in progress it ends nothing. -/
def execStop : State → Result := onEvent fun s =>
  match s.port.frame with
  | none => .next s
  | some _ => if s.port.hold = .none then .next (s.concludeFrame .stop) else outOfPlace

/-- MISPLACED_CONDITION (R118, R134): the frame ends abnormally, and a start is then the start of a new frame. It can
come in the clock pulse before a hold, and not while USCL is held. -/
def execMisplacedCondition (isStart : Bool) : State → Result := onEvent fun s =>
  match s.port.frame with
  | none => if isStart then s.fallOfUsda else .next s
  | some _ =>
    if s.clockHeld then outOfPlace
    else if isStart then .next (s.concludeFrame .abnormal).beginFrame
    else .next (s.concludeFrame .abnormal)

/-! ## Timers -/

/-- IDLE_TIMER_EXPIRY (R131, R134). The timer runs in the clock pulse before a hold too. -/
def execIdleTimerExpiry : State → Result := onEvent fun s =>
  if s.port.frame.isSome ∧ s.port.idleTimer.isSome then .next (s.concludeFrame .abnormal) else outOfPlace

/-- The downstream side of a READ frame whose device byte has been refused by the expiry (R94): an ungranted request
is withdrawn; a poll, a bus clear, or the header in progress runs on to its end (log 31). -/
def State.woundUpRead (s : State) : State := if s.serving .read then s else s.withdraw .read

/-- What the expiry at hold point A does to the frame (R94, R128, R130, R145). -/
def State.expireHoldA (f : Frame) (s : State) : State :=
  match f.cls with
  | .read => s.refuseRead.woundUpRead
  | .relay => s.refuseHeld.windUpRelay
  | .undecided | .addressSet | .staged | .mark | .refused | .posted => s.refuseHeld

/-- HOLD_TIMER_EXPIRY_A (R128): the hold has been taken before it (log 32). -/
def execHoldTimerExpiryA : State → Result := onEvent fun s =>
  match s.port.frame with
  | some f => if s.port.hold = .a then .next (s.conclude (s.expireHoldA f)) else outOfPlace
  | none => outOfPlace

/-- A relayed read fills with FFh from the byte awaited on, and its relay is wound up (R129, R145). -/
def State.fillRelay (s : State) : State :=
  ((s.releaseHold.sendUp 0xFF).updFrame fun f => { f with filling := true }).windUpRelay

/-- HOLD_TIMER_EXPIRY_B (R95, R129, R145): the hold has been taken before it (log 32). The downstream frame of a READ
frame is wound up by the byte in progress, when it has been clocked out (R95). -/
def execHoldTimerExpiryB : State → Result := onEvent fun s =>
  match s.port.frame with
  | some f =>
    if s.port.hold = .b ∧ f.cls = .read then .next (s.conclude s.fillRead)
    else if s.port.hold = .b ∧ f.cls = .relay then .next (s.conclude s.fillRelay)
    else outOfPlace
  | none => outOfPlace

end Sys2Proof.Machine
end

