-- ==== Sys2Proof/Machine/Bytes.lean ====
section
/-! DEFINITION. Meanings of the bytes on the upstream segment: the device byte (section 7.3), the word-address bytes
(section 7.4), the data bytes (section 7.6) and the controller's answers in a read (R89, R90, R143). -/

namespace Sys2Proof.Machine

/-! ## The device byte (R119, R120) -/

/-- The 7-bit address of a device byte (R185). -/
def byteAddr (b : Byte) : DevAddr := b.extractLsb' 1 7

/-- The direction of a device byte: 1 is read. -/
def byteDirection (b : Byte) : Direction := if b.getLsbD 0 then .read else .write

/-- The frame record after the eighth bit of its device byte (R117, R120). -/
def State.classFrame (b : Byte) (c : FrameClass) (dev : Option Nat) (s : State) : State :=
  s.updFrame fun f =>
    { f with direction := some (byteDirection b), devAddr := byteAddr b, dev := dev, cls := c, headerBytes := 1 }

/-- The gate refuses the device byte: a NAK and a dead frame (R119, R126). -/
def State.deviceByteRefused (b : Byte) (s : State) : State :=
  ((s.classFrame b .undecided none).answerWith false).killFrame

/-- A READ frame begins: held at A, its request placed (R86, R120). -/
def State.beginRead (b : Byte) (i : Nat) (s : State) : State :=
  ((((s.classFrame b .read (some i)).decideHold .a).updRead fun _ =>
    { dev := i, phase := .requested, snapshot := none }).placeUp .read)

/-- A write frame to a served device: acknowledged at once, its header to be collected (R120, R121). -/
def State.beginHeader (b : Byte) (i : Nat) (s : State) : State :=
  (s.classFrame b .undecided (some i)).answerWith true

/-- A relay to an address that is not served: held at A, its request placed (R120, R142). -/
def State.beginRelay (b : Byte) (s : State) : State :=
  ((((s.classFrame b .relay none).decideHold .a).updRelay fun _ =>
    some { addr := byteAddr b, direction := byteDirection b, opened := false, naked := false, home := none
           stage := .requested, byte := b }).placeUp .relay)

/-- A relay that goes on across a repeated start: the device byte passes on in the same downstream frame (R133,
R144). -/
def State.continueRelay (b : Byte) (s : State) : State :=
  ((s.classFrame b .relay none).decideHold .a).updRelay fun o =>
    o.map fun r => { r with direction := byteDirection b, naked := false, stage := .deviceSent, byte := b }

/-- The relay left open by a repeated start is to this address (R133). -/
def Relay.continues (a : DevAddr) (r : Relay) : Bool :=
  decide (r.stage = .restarted ∧ r.home = none ∧ r.addr = a)

/-- A relay that a repeated start left open is closed, and its grant returned (R133, R144). -/
def State.closePending (s : State) : State := s.conclude (s.closeRelay false)

/-- The frame of a device byte, the gate being OPEN (R120). A relay that is still to be closed gives its grant back at
a boundary of its own, and the arbiter grants there before the new frame's request is placed: R152 leaves open which of
the two is taken first where the relay is stuck and its close sends nothing, and this order is the model's choice (log
29). -/
def State.classDeviceByte (b : Byte) (s : State) : State :=
  match s.indexOf (byteAddr b) with
  | some i =>
    match byteDirection b with
    | .read => (s.closePending).beginRead b i
    | .write => (s.closePending).beginHeader b i
  | none =>
    if s.relay.any (Relay.continues (byteAddr b)) then s.continueRelay b else (s.closePending).beginRelay b

/-- DEVICE_BYTE (R119, R120). -/
def execDeviceByte (b : Byte) : State → Result := onEvent fun s =>
  match s.port.frame with
  | none => .next s
  | some f =>
    if f.dead then .next (s.answerWith false)
    else if s.port.hold ≠ .none ∨ f.headerBytes ≠ 0 then outOfPlace
    else if s.port.gate = .refusing then .next (s.closePending.deviceByteRefused b)
    else .next (s.closePending.conclude (s.classDeviceByte b))

/-! ## Word-address bytes (R121, R123, R130) -/

/-- The start address: reduced modulo the capacity while CONFIGURED, as sent while UNCONFIGURED (R4, R7, R121). -/
def State.startAddress (d : Nat) (w : Word) (s : State) : Word :=
  if s.configured then BitVec.ofNat 16 (w.toNat % s.setup.tables.capacity d) else w

/-- The frame class an address class gives while CONFIGURED (R121). -/
def AddrClass.frameClass : AddrClass → FrameClass
  | .control => .mark
  | .setup => .staged
  | .guarded => .staged
  | .ring => .refused
  | .opn => .posted

/-- The class of a write frame from its start address (R6, R121). -/
def State.writeClass (d : Nat) (a : Word) (s : State) : FrameClass :=
  if s.configured then (classify s.setup.straps s.setup.tables d a.toNat).frameClass
  else if inArea (windowBase s.setup.straps) a.toNat then .mark
  else .relay

/-- The first word-address byte, acknowledged (R121). -/
def State.firstAddressByte (b : Byte) (s : State) : State :=
  (s.updFrame fun f => { f with addrHigh := b, headerBytes := 2 }).answerWith true

/-- The second word-address byte: the frame is classified; the pointer is loaded with the acknowledgement, which a
POSTED frame that meets a full forward queue waits for at A (R121, R123, R130, R137). The acknowledgement is given in
the event of the eighth bit, whether or not its clock is cut (R134): the model's choice, here and at the data bytes
below (log 37). -/
def State.secondAddressByte (d : Nat) (w : Word) (s : State) : State :=
  let a := s.startAddress d w
  let c := s.writeClass d a
  let s' := s.updFrame fun f => { f with cls := c, start := some a, headerBytes := 3 }
  if c = .posted then
    if s.forward.freeSlot.isSome then ((s'.reserveSlot d a).setPointer d a).answerWith true else s'.decideHold .a
  else (s'.setPointer d a).answerWith true

/-- A byte of an open relay in write direction: held at A while it crosses the downstream segment (R143). -/
def State.relayByte (b : Byte) (s : State) : State :=
  (s.decideHold .a).updRelay fun o => o.map fun r => { r with stage := .byteSent, byte := b }

/-- The first data byte of a relayed home write: held at A, its request placed (R121, R142). -/
def State.beginHomeRelay (b : Byte) (start : Word) (s : State) : State :=
  (((s.decideHold .a).updRelay fun _ =>
    some { addr := homeAddr s.setup.straps, direction := .write, opened := false, naked := false
           home := some { start := start, byteRelayed := false }, stage := .requested, byte := b }).placeUp .relay)

/-- A byte of a RELAY frame in write direction after its device byte (R125, R142, R143). -/
def State.relayFrameByte (f : Frame) (b : Byte) (s : State) : Result :=
  if f.refusedData then .next s.refuseData
  else
    match s.relay with
    | some r => if r.stage = .opn then .next (s.relayByte b) else outOfPlace
    | none =>
      match f.start with
      | some a => .next (s.conclude (s.beginHomeRelay b a))
      | none => outOfPlace

/-- WORD_ADDRESS_BYTE (R121; in a RELAY frame it is a byte to be relayed, log 22). -/
def execWordAddressByte (b : Byte) : State → Result := onEvent fun s =>
  match s.port.frame with
  | none => .next s
  | some f =>
    if f.dead then .next (s.answerWith false)
    else if s.port.hold ≠ .none then outOfPlace
    else
      match f.cls, f.headerBytes with
      | .undecided, 1 => .next (s.firstAddressByte b)
      | .undecided, 2 => .next (s.secondAddressByte (f.dev.getD 0) (wordOf f.addrHigh b))
      | .relay, 1 => if f.direction = some .write then s.relayFrameByte f b else outOfPlace
      | _, _ => outOfPlace

/-! ## Data bytes (R125) -/

/-- A data byte of a STAGED frame: its reservation answers it, and the pointer advances with that answer (R26 to R30,
R123, R125; log 37). -/
def State.stagedDataByte (f : Frame) (b : Byte) (s : State) : State :=
  if f.refusedData ∨ s.queue.lost then s.refuseData
  else
    let r := s.reserve (f.dev.getD 0) (f.start.getD 0) b
    if r.2 then r.1.ackData.advanceWrite (f.dev.getD 0) else r.1.refuseData

/-- A data byte of a MARK frame: the mark byte is the first, at offset 0 of the control window (R99, R123, R125; log
37). -/
def State.markDataByte (f : Frame) (b : Byte) (s : State) : State :=
  if f.acked = 0 ∧ f.refusedData = false ∧ f.start = some (BitVec.ofNat 16 (windowBase s.setup.straps)) then
    ((s.ackData).updFrame fun f => { f with markByte := some b }).advanceWrite (f.dev.getD 0)
  else s.refuseData

/-- A data byte of a POSTED frame: refused throughout if the device is FAULTED at the first, otherwise collected
(R123, R125, R137; log 37). -/
def State.postedDataByte (f : Frame) (b : Byte) (s : State) : State :=
  if f.refusedData ∨ (f.acked = 0 ∧ s.devState (f.dev.getD 0) = .faulted) then s.refuseData
  else (s.collectByte b).ackData.advanceWrite (f.dev.getD 0)

/-- DATA_BYTE (R125). -/
def execDataByte (b : Byte) : State → Result := onEvent fun s =>
  match s.port.frame with
  | none => .next s
  | some f =>
    if f.dead then .next (s.answerWith false)
    else if s.port.hold ≠ .none then outOfPlace
    else
      match f.cls with
      | .staged => .next (s.stagedDataByte f b)
      | .mark => .next (s.markDataByte f b)
      | .refused => .next s.refuseData
      | .posted => .next (s.postedDataByte f b)
      | .relay => if f.direction = some .write then s.relayFrameByte f b else outOfPlace
      | .undecided | .addressSet | .read => outOfPlace

/-! ## The controller's answers in a read (R89, R90, R95, R143) -/

/-- The pointer of the READ frame's device advances with the controller's answer (R90). -/
def State.advanceRead (s : State) : State :=
  s.setPointer s.read.dev (readAdvance (s.setup.tables.capacity s.read.dev) (s.pointer s.read.dev))

/-- The controller's answer to a byte of a READ frame (R89, R90, R95). An ack decides the hold at B for the next byte, a
NAK is passed on and the downstream frame closed. -/
def State.answerRead (ack : Bool) (s : State) : Result :=
  match s.read.phase with
  | .streaming =>
    if s.down.activity = .held ∧ s.down.clearing = false then
      if ack then .next ((s.advanceRead.decideHold .b).setActivity .byte)
      else .next ((s.advanceRead.beginClosing .nakStop false).updRead fun r => { r with phase := .drained })
    else outOfPlace
  | .filling => .next (s.advanceRead.sendUp 0xFF)
  | .drained => .next s
  | .none | .requested | .opening | .dead => outOfPlace

/-- The controller's answer to a byte of a relayed read (R129, R143). An ack decides the hold at B for the next byte. -/
def State.answerRelay (f : Frame) (ack : Bool) (s : State) : Result :=
  if f.filling then .next (s.sendUp 0xFF)
  else
    match s.relay with
    | some r =>
      match r.stage with
      | .readHeld =>
        if ack then .next ((s.decideHold .b).updRelay fun o => o.map fun r => { r with stage := .readByte })
        else .next (s.updRelay fun o => o.map fun r => { r with stage := .drained })
      | .drained => .next s
      | _ => outOfPlace
    | none => outOfPlace

/-- CONTROLLER_ANSWER (R89, R90, R143). Clocks in a dead frame or in none are no bits of a read (R118, R126). -/
def execControllerAnswer (ack : Bool) : State → Result := onEvent fun s =>
  match s.port.frame with
  | none => .next s
  | some f =>
    if f.dead then .next s
    else if s.port.hold ≠ .none then outOfPlace
    else
      match f.cls with
      | .read => s.answerRead ack
      | .relay => if f.direction = some .read then s.answerRelay f ack else outOfPlace
      | _ => outOfPlace

end Sys2Proof.Machine
end

