-- ==== Sys2Proof/WellFormed.lean ====
section
/-! DEFINITION. Which operands a command's row admits. The meaning of a command refuses one that is not
well-formed under the name illFormed (log 3). -/

namespace Sys2Proof

/-- The operand is one the spec gives the row. Lengths that rest on the state (a verify read, a record read) are
checked by the meaning against the read in progress. -/
def Instr.wellFormed : Instr → Bool
  | .seal t => decide (1 ≤ t.toNat ∧ t.toNat ≤ 0xEF)
  | .invalidMark v => decide (0xF4 ≤ v.toNat)
  | .setupReadDone bs => decide (bs.length = 128)
  | .scanHeaderReadDone bs => decide (bs.length = 16)
  | .verifyReadDone bs => decide (21 ≤ bs.length ∧ bs.length ≤ 1232)
  | .scanRecordReadDone bs => decide (16 ≤ bs.length)
  | .reset | .resetRelease _ _ | .start | .repeatedStart | .stop | .misplacedCondition _ => true
  | .deviceByte _ | .wordAddressByte _ | .dataByte _ | .controllerAnswer _ => true
  | .holdTimerExpiryA | .holdTimerExpiryB | .idleTimerExpiry => true
  | .discard | .retry | .pause | .resume | .clear => true
  | .pollAttemptAcknowledged | .pollAttemptNak _ | .pollIntervalElapsed | .pollExpired => true
  | .writeFrameSent | .frameRefused | .readFrameRefused => true
  | .readHeaderDone _ | .memoryByteHeld _ | .relayAnswer _ | .relayReadByte _ => true
  | .stuckBusDetected | .busClearAttemptEnd _ | .reloadReadRequest | .setupSwap => true

end Sys2Proof
end

