-- ==== Sys2Proof/Machine/MarkCommands.lean ====
section
/-! DEFINITION. Meanings of the mark rows (section 6.2): the control window acts on a mark (R100 to R107; log 5). -/

namespace Sys2Proof.Machine

/-- The frame in progress carries this mark, whole and acknowledged, and its next condition may come (R99, R100). -/
def Frame.carries (v : Byte) (f : Frame) : Bool :=
  decide (f.cls = .mark ∧ f.dead = false ∧ f.markByte = some v)

/-- A mark is acted on: at the stop of the MARK frame that carries it, or, with the port between frames, as the
handing-on alone (R100, R132; log 5). While the gate refuses every frame no mark reaches the window (R119). -/
def State.markEvent (v : Byte) (s : State) : Result :=
  if s.port.gate = .refusing then outOfPlace
  else
    match s.port.frame with
    | none => .next (s.conclude (s.actOnMark v))
    | some f => if f.carries v ∧ s.port.hold = .none then .next (s.concludeFrame .stop) else outOfPlace

/-- DISCARD (R36, R102). -/
def execDiscard : State → Result := onEvent fun s => s.markEvent 0x00

/-- SEAL (R45, R46, R103). -/
def execSeal (tag : Byte) : State → Result := onEvent fun s =>
  if (Instr.seal tag).wellFormed then s.markEvent tag else illFormed

/-- RETRY (R63, R104, R163). -/
def execRetry : State → Result := onEvent fun s => s.markEvent 0xF0

/-- PAUSE (R64, R105). -/
def execPause : State → Result := onEvent fun s => s.markEvent 0xF1

/-- RESUME (R65, R105). -/
def execResume : State → Result := onEvent fun s => s.markEvent 0xF2

/-- CLEAR (R106). -/
def execClear : State → Result := onEvent fun s => s.markEvent 0xF3

/-- INVALID_MARK (R107). -/
def execInvalidMark (value : Byte) : State → Result := onEvent fun s =>
  if (Instr.invalidMark value).wellFormed then s.markEvent value else illFormed

end Sys2Proof.Machine
end

