-- ==== Sys2Proof/Machine/Polls.lean ====
section
/-! DEFINITION. Meanings of the poll rows (section 9.4): an attempt acknowledged or refused, the interval, the
expiry (R153, R155). -/

namespace Sys2Proof.Machine

/-- A poll attempt is on the segment (R155). -/
def Downstream.attempting (d : Downstream) : Bool := d.poll.any Poll.attempt && !d.clearing

/-- What a granted operation does when its poll is acknowledged (R20, R59, R88, R139, R142, R155, R176). A READ or
RELAY whose upstream frame has ended returns its grant (R149). -/
def State.afterPoll (r : Requester) (p : Poll) (s : State) : State :=
  match r with
  | .homePoll => (s.freeBus.updSetup fun st => { st with phase := .loading }).requestLoad
  | .engine =>
    if p.followsWrite then
      if p.afterRefusal then s.freeBus.repeatOrHalt .writeRefused else s.freeBus.writeStepDone
    else s.sendFrame .engine
  | .posted i => if p.followsWrite then s.freeBus.slotDone i else s.sendFrame (.posted i)
  | .read => if s.down.ended then s.freeBus else s.sendFrame .read
  | .relay => if s.down.ended then s.freeBus.attemptPolled else s.sendFrame .relay
  | .setupRead => s.sendFrame .setupRead
  | .scanRead => s.sendFrame .scanRead

/-- The poll's device becomes READY and the poll ends (R153, R155). -/
def State.pollAcknowledged (r : Requester) (p : Poll) (s : State) : State :=
  ((s.setStateAt p.addr .ready).endPoll).afterPoll r p

/-- The poll expires: its device becomes FAULTED and the operation fails (R153, R155). -/
def State.expirePoll (r : Requester) (p : Poll) (s : State) : State :=
  (s.setStateAt p.addr .faulted).failOp r .pollExpired

/-- A poll attempt has ended: what follows, if one is on the segment. -/
def State.onAttempt (f : Requester → Poll → Result) (s : State) : Result :=
  match s.down.grant, s.down.poll with
  | some r, some p => if p.attempt ∧ s.down.clearing = false then f r p else outOfPlace
  | _, _ => outOfPlace

/-- POLL_ATTEMPT_ACKNOWLEDGED (R155). -/
def execPollAttemptAcknowledged : State → Result := onEvent fun s =>
  s.onAttempt fun r p => .next (s.conclude (s.pollAcknowledged r p))

/-- The poll's age has reached its limit (R155): the age in microseconds, the limit in milliseconds. -/
def Poll.aged (age : Nat) (p : Poll) : Bool := decide (p.limit * 1000 ≤ age)

/-- The 100 us interval before the next attempt (R155). -/
def State.waitInterval (s : State) : State :=
  s.updDown fun d => { d with poll := d.poll.map fun p => { p with attempt := false } }

/-- POLL_ATTEMPT_NAK (R155). -/
def execPollAttemptNak (age : Nat) : State → Result := onEvent fun s =>
  s.onAttempt fun r p => if p.aged age then .next (s.conclude (s.expirePoll r p)) else .next s.waitInterval

/-- The next attempt begins (R155). -/
def State.nextAttempt (s : State) : State :=
  s.updDown fun d => { d with poll := d.poll.map fun p => { p with attempt := true } }

/-- POLL_INTERVAL_ELAPSED (R155). -/
def execPollIntervalElapsed : State → Result := onEvent fun s =>
  match s.down.grant, s.down.poll with
  | some _, some p => if p.attempt = false ∧ s.down.clearing = false then .next s.nextAttempt else outOfPlace
  | _, _ => outOfPlace

/-- POLL_EXPIRED (R155). -/
def execPollExpired : State → Result := onEvent fun s =>
  s.onAttempt fun r p => .next (s.conclude (s.expirePoll r p))

end Sys2Proof.Machine
end

