-- ==== Sys2Proof/Machine/PartFrames.lean ====
section
/-! DEFINITION. Meanings of the ends of the part's own frames: write frames sent or refused (R59, R139, R140, R148),
and the random reads of the engine, the setup unit and the scan (R8, R53, R60, R79, R80, R83). -/

namespace Sys2Proof.Machine

/-! ## Write frames -/

/-- A write frame is on the segment: what follows its end. -/
def State.onWrite (f : Requester → DevAddr → Result) (s : State) : Result :=
  match s.down.grant, s.down.activity with
  | some r, .write a _ _ => if s.down.clearing ∨ s.down.poll.isSome then outOfPlace else f r a
  | _, _ => outOfPlace

/-- WRITE_FRAME_SENT (R148, R153, R155). -/
def execWriteFrameSent : State → Result := onEvent fun s =>
  s.onWrite fun _ a => .next (s.pollAfterWrite a false)

/-- A refusal reaches its requester at once: the engine has made one attempt more, a posted write has failed (R59,
R140). -/
def State.noteRefusal (r : Requester) (s : State) : State :=
  match r with
  | .engine => s.countAttempt
  | .posted i => s.forwardFailure (s.forward.get i).dev (s.forward.get i).start
  | .read | .relay | .setupRead | .scanRead | .homePoll => s

/-- FRAME_REFUSED (R59, R140): the frame is stopped and its device polled. -/
def execFrameRefused : State → Result := onEvent fun s =>
  s.onWrite fun r a => .next ((s.noteRefusal r).pollAfterWrite a true)

/-! ## Random reads -/

/-- A random read of the engine, the setup unit or the scan is on the segment: what follows its end, from the
requester and the number of bytes asked for. -/
def State.onRead (f : Requester → Nat → Result) (s : State) : Result :=
  match s.down.grant, s.down.activity with
  | some r, .read _ _ n => if s.down.clearing ∨ s.down.poll.isSome then outOfPlace else f r n
  | _, _ => outOfPlace

/-- A refused read as its requester's rule gives (R8, R60, R83). -/
def State.readRefused (r : Requester) (s : State) : State :=
  match r with
  | .engine => s.countAttempt.repeatOrHalt .readRefused
  | .setupRead => s.setupReadRefused
  | .scanRead => s.scanReadRefused
  | .posted _ | .read | .relay | .homePoll => s

/-- READ_FRAME_REFUSED (R8, R60, R83). -/
def execReadFrameRefused : State → Result := onEvent fun s =>
  s.onRead fun r _ => .next (s.conclude (s.freeBus.readRefused r))

/-- VERIFY_READ_DONE (R53, R54). -/
def execVerifyReadDone (bytes : List Byte) : State → Result := onEvent fun s =>
  if (Instr.verifyReadDone bytes).wellFormed then
    s.onRead fun r n =>
      if r = .engine ∧ bytes.length = n then .next (s.conclude (s.freeBus.verifyDone bytes)) else outOfPlace
  else illFormed

/-- SETUP_READ_DONE (R8, R9, R15 to R17, R177). -/
def execSetupReadDone (bytes : List Byte) : State → Result := onEvent fun s =>
  if (Instr.setupReadDone bytes).wellFormed then
    s.onRead fun r _ => if r = .setupRead then .next (s.conclude (s.freeBus.loadRead bytes)) else outOfPlace
  else illFormed

/-- SCAN_HEADER_READ_DONE (R79). -/
def execScanHeaderReadDone (bytes : List Byte) : State → Result := onEvent fun s =>
  if (Instr.scanHeaderReadDone bytes).wellFormed then
    s.onRead fun r _ =>
      match r, s.journal.scan with
      | .scanRead, some sc =>
        match sc.stage with
        | .headers o => .next (s.conclude (s.freeBus.scanHeader o sc.cands bytes))
        | .record _ => outOfPlace
      | _, _ => outOfPlace
  else illFormed

/-- SCAN_RECORD_READ_DONE (R80 to R82). -/
def execScanRecordReadDone (bytes : List Byte) : State → Result := onEvent fun s =>
  if (Instr.scanRecordReadDone bytes).wellFormed then
    s.onRead fun r n =>
      match r, s.journal.scan with
      | .scanRead, some sc =>
        match sc.stage with
        | .record o =>
          if bytes.length = n then .next (s.conclude (s.freeBus.scanRecord o sc.cands bytes)) else outOfPlace
        | .headers _ => outOfPlace
      | _, _ => outOfPlace
  else illFormed

end Sys2Proof.Machine
end

