-- ==== Sys2Proof/Machine/Transfers.lean ====
section
/-! DEFINITION. Meanings of the downstream answers and bytes of proxy reads (R88 to R92, R96) and of relays (R142,
R143). -/

namespace Sys2Proof.Machine

/-! ## Proxy reads -/

/-- The downstream frame of a proxy read goes on without its controller: the READ frame has ended, is DEAD or fills
(R94, R95, R97). -/
def State.readUnattended (s : State) : Bool :=
  s.down.ended || decide (s.read.phase = .dead ∨ s.read.phase = .filling)

/-- The header's end in a frame that the controller attends (R88, R96). It answers the device byte held at A, an ack
deciding the hold at B for the first byte; the header of a stream taken up again after a bus clear leaves the hold as
it is. A refused header is followed by a stop. -/
def State.headerDone (ack : Bool) (s : State) : Result :=
  match s.read.phase with
  | .opening =>
    if s.port.hold ≠ .a then outOfPlace
    else if ack then
      .next ((((s.releaseHold.answerWith true).updRead fun r => { r with phase := .streaming }).decideHold .b).setActivity .byte)
    else .next (s.refuseRead.beginClosing .stop false)
  | .streaming => .next (if ack then s.setActivity .byte else s.beginClosing .stop false)
  | .none | .requested | .drained | .filling | .dead => outOfPlace

/-- The header's end in a frame that nobody attends (R94, log 31): once the device byte in read direction is
acknowledged one byte is clocked out of the memory, otherwise the frame is closed. -/
def State.headerAbandoned (ack : Bool) (s : State) : State :=
  if ack then s.setActivity .byte else s.beginClosing .stop false

/-- What is on the segment for the granted READ frame, polls and bus clears apart. -/
def State.readActivity (s : State) : Option Activity :=
  if s.down.grant = some .read ∧ s.down.clearing = false ∧ s.down.poll = none then some s.down.activity else none

/-- READ_HEADER_DONE (R88, R94). -/
def execReadHeaderDone (ack : Bool) : State → Result := onEvent fun s =>
  match s.readActivity with
  | some (.header _ _) => if s.readUnattended then .next (s.headerAbandoned ack) else s.headerDone ack
  | _ => outOfPlace

/-- The reduced address of the data byte awaited (R90, R91). -/
def State.readAddress (s : State) : Nat := (s.pointer s.read.dev).toNat % s.setup.tables.capacity s.read.dev

/-- The address of the byte awaited lies in the control window of the home device (R91). -/
def State.readsControl (s : State) : Bool :=
  decide (s.read.dev = 0) && inArea (windowBase s.setup.straps) s.readAddress

/-- The status snapshot is taken at the first CONTROL byte of the frame, at whatever offset of the window (R85, R92).
R114 takes it at the first byte at offsets 0 to 31: R85 and R92 are followed, the model's choice (log 38). -/
def State.takeSnapshot (s : State) : State :=
  s.updRead fun r => { r with snapshot := some (r.snapshot.getD s.statusRecord) }

/-- A byte of the control window: the snapshot's, and 00h from offset 32 on (R91). -/
def State.windowByte (s : State) : Byte :=
  byteAt (s.read.snapshot.getD s.statusRecord) (s.readAddress - windowBase s.setup.straps)

/-- The byte chosen for the upstream segment (R91, R98): status, then staged, then the memory's. -/
def State.chooseByte (memory : Byte) (s : State) : Byte :=
  if s.readsControl then s.windowByte
  else if s.configured then (s.stagedByte s.read.dev s.readAddress).getD memory
  else memory

/-- The byte held is chosen and sent upstream (R89, R91, R92). -/
def State.passByte (memory : Byte) (s : State) : State :=
  let s' := if s.readsControl then s.takeSnapshot else s
  (s'.releaseHold.sendUp (s.chooseByte memory)).setActivity .held

/-- MEMORY_BYTE_HELD (R89, R91, R92): a byte that nobody awaits is answered with a NAK and discarded, and the
downstream frame closed (R94, R95, R97). -/
def execMemoryByteHeld (b : Byte) : State → Result := onEvent fun s =>
  match s.readActivity with
  | some .byte =>
    if s.readUnattended then .next (s.beginClosing .nakStop false)
    else if s.read.phase = .streaming ∧ s.port.hold = .b then .next (s.passByte b)
    else outOfPlace
  | _ => outOfPlace

/-! ## Relays -/

/-- The memory refuses the device byte: the held byte is refused, the frame dead and the relay closed with a stop, after
which the grant goes back (R142). -/
def State.relayDeviceRefused (s : State) : State := (s.refuseHeld.dropRelay.markEnded).beginClosing .stop false

/-- The memory acknowledges the device byte (R142, R143). In read direction the hold at B is decided with it. -/
def State.relayDeviceAcked (r : Relay) (s : State) : State :=
  let s' := s.releaseHold.answerWith true
  match r.direction with
  | .write => s'.updRelay fun _ => some { r with stage := .opn }
  | .read => (s'.decideHold .b).updRelay fun _ => some { r with stage := .readByte }

/-- The relayed byte is acknowledged; a home relay counts it and its pointer advances (R123, R143). -/
def State.relayByteAcked (r : Relay) (s : State) : State :=
  let s' := s.releaseHold.ackData.updRelay fun _ =>
    some { r with stage := .opn, home := r.home.map fun h => { h with byteRelayed := true } }
  if r.home.isSome then s'.advanceWrite 0 else s'

/-- The relayed byte is refused: no later byte of the frame is sent (R142, R143). -/
def State.relayByteRefused (r : Relay) (s : State) : State :=
  s.releaseHold.refuseData.updRelay fun _ => some { r with stage := .opn, naked := true }

/-- The memory's answer in a relay that goes on (R142, R143). -/
def State.relayAnswered (r : Relay) (ack : Bool) (s : State) : Result :=
  match r.stage with
  | .deviceSent => if ack then .next (s.relayDeviceAcked r) else .next s.relayDeviceRefused
  | .byteSent => .next (if ack then s.relayByteAcked r else s.relayByteRefused r)
  | _ => outOfPlace

/-- The relay being wound up, if a byte of it is in progress: who sends that byte, what closes the frame after it,
and whether the home device is polled after the close (R145). -/
def State.windingUp (s : State) : Option (Direction × Closing × Bool) :=
  match s.down.grant, s.down.activity with
  | some .relay, .windUp d how home =>
    if s.down.ended ∧ s.down.clearing = false then some (d, how, home) else none
  | _, _ => none

/-- RELAY_ANSWER (R142, R143). In a relay being wound up the answer is discarded, and the frame closed (R145). -/
def execRelayAnswer (ack : Bool) : State → Result := onEvent fun s =>
  match s.windingUp with
  | some (.write, how, home) => .next (s.beginClosing how home)
  | _ =>
    match s.port.frame, s.relay with
    | some _, some r =>
      if s.serving .relay ∧ s.down.clearing = false ∧ s.port.hold = .a then s.relayAnswered r ack else outOfPlace
    | _, _ => outOfPlace

/-- RELAY_READ_BYTE (R143). In a relay being wound up the byte is answered with a NAK and not sent, and the frame
closed (R129, R145). -/
def execRelayReadByte (b : Byte) : State → Result := onEvent fun s =>
  match s.windingUp with
  | some (.read, how, home) => .next (s.beginClosing how home)
  | _ =>
    match s.port.frame, s.relay with
    | some _, some r =>
      if r.stage = .readByte ∧ s.serving .relay ∧ s.down.clearing = false ∧ s.port.hold = .b then
        .next ((s.releaseHold.sendUp b).updRelay fun _ => some { r with stage := .readHeld })
      else outOfPlace
    | _, _ => outOfPlace

end Sys2Proof.Machine
end

