-- ==== Sys2Proof/Machine/Bus.lean ====
section
/-! DEFINITION. Meanings of the stuck-bus rows (section 9.6) and of the setup unit's own steps (R16, R18). -/

namespace Sys2Proof.Machine

/-! ## The stuck bus (R157 to R160) -/

/-- A relay is driving the segment, or about to (R142 to R145, R157). -/
def RelayStage.drives : RelayStage → Bool
  | .deviceSent | .byteSent | .readByte | .restarted | .drained => true
  | .requested | .polling | .opn | .readHeld | .stuck => false

def Activity.drives : Activity → Bool
  | .write _ _ _ | .read _ _ _ | .header _ _ | .byte | .windUp _ _ _ | .closing _ _ => true
  | .none | .held => false

/-- The part drives or checks the lines, so that it can find the bus stuck (R157). In DRAINED, FILLING and DEAD, for
which R96 has no row, it does while a poll, a header, a byte or closing conditions are on the segment (log 31). -/
def State.drivesBus (s : State) : Bool :=
  s.down.poll.isSome || s.down.activity.drives
    || (s.serving .relay && s.relay.any fun r => r.stage.drives)

/-- The frame in progress stops, the lines are released, and a bus clear begins (R157, R158). -/
def State.beginClear (s : State) : State :=
  s.updDown fun d => { d with detections := d.detections + 1, clearing := true, clears := 0 }

/-- STUCK_BUS_DETECTED (R157, R160). -/
def execStuckBusDetected : State → Result := onEvent fun s =>
  match s.down.grant with
  | none => outOfPlace
  | some r =>
    if s.down.clearing = false ∧ s.drivesBus then
      if s.down.detections < Config.detectionMax then .next s.beginClear else .next (s.conclude (s.reportStuck r))
    else outOfPlace

/-- One attempt of the bus clear has been made (R158). -/
def State.countClear (s : State) : State := s.updDown fun d => { d with clears := d.clears + 1 }

/-- BUS_CLEAR_ATTEMPT_END (R158 to R160). -/
def execBusClearAttemptEnd (success : Bool) : State → Result := onEvent fun s =>
  match s.down.grant with
  | none => outOfPlace
  | some r =>
    if s.down.clearing then
      if success then .next (s.conclude (s.countClear.resumeAfterClear r))
      else if s.down.clears + 1 < Config.clearMax then .next s.countClear
      else .next (s.conclude (s.countClear.reportStuck r))
    else outOfPlace

/-! ## The setup unit's own steps -/

/-- RELOAD_READ_REQUEST (R16). -/
def execReloadReadRequest (s : State) : Result := if s.reloadDue then .next s.takeReloadRequest else outOfPlace

/-- SETUP_SWAP (R18): due as the state stands, or once the closing conditions under way have been sent (log 33). -/
def execSetupSwap (s : State) : Result :=
  if s.swapDue then .next s.takeSwap
  else if s.takeClosing.swapDue then .next s.takeClosing.takeSwap
  else outOfPlace

end Sys2Proof.Machine
end

