-- ==== Sys2Proof/Machine/Dispatch.lean ====
section
/-! DEFINITION. The one map from commands to meanings. -/

namespace Sys2Proof.Machine

def exec (i : Instr) (s : State) : Host.Outcome State Fault Refusal :=
  match i with
  | .reset => Sys2Proof.Machine.execReset s
  | .resetRelease ha sb => Sys2Proof.Machine.execResetRelease ha sb s
  | .start => Sys2Proof.Machine.execStart s
  | .repeatedStart => Sys2Proof.Machine.execRepeatedStart s
  | .stop => Sys2Proof.Machine.execStop s
  | .misplacedCondition isStart => Sys2Proof.Machine.execMisplacedCondition isStart s
  | .deviceByte b => Sys2Proof.Machine.execDeviceByte b s
  | .wordAddressByte b => Sys2Proof.Machine.execWordAddressByte b s
  | .dataByte b => Sys2Proof.Machine.execDataByte b s
  | .controllerAnswer ack => Sys2Proof.Machine.execControllerAnswer ack s
  | .holdTimerExpiryA => Sys2Proof.Machine.execHoldTimerExpiryA s
  | .holdTimerExpiryB => Sys2Proof.Machine.execHoldTimerExpiryB s
  | .idleTimerExpiry => Sys2Proof.Machine.execIdleTimerExpiry s
  | .discard => Sys2Proof.Machine.execDiscard s
  | .seal tag => Sys2Proof.Machine.execSeal tag s
  | .retry => Sys2Proof.Machine.execRetry s
  | .pause => Sys2Proof.Machine.execPause s
  | .resume => Sys2Proof.Machine.execResume s
  | .clear => Sys2Proof.Machine.execClear s
  | .invalidMark value => Sys2Proof.Machine.execInvalidMark value s
  | .pollAttemptAcknowledged => Sys2Proof.Machine.execPollAttemptAcknowledged s
  | .pollAttemptNak age => Sys2Proof.Machine.execPollAttemptNak age s
  | .pollIntervalElapsed => Sys2Proof.Machine.execPollIntervalElapsed s
  | .pollExpired => Sys2Proof.Machine.execPollExpired s
  | .writeFrameSent => Sys2Proof.Machine.execWriteFrameSent s
  | .frameRefused => Sys2Proof.Machine.execFrameRefused s
  | .readFrameRefused => Sys2Proof.Machine.execReadFrameRefused s
  | .verifyReadDone bytes => Sys2Proof.Machine.execVerifyReadDone bytes s
  | .setupReadDone bytes => Sys2Proof.Machine.execSetupReadDone bytes s
  | .scanHeaderReadDone bytes => Sys2Proof.Machine.execScanHeaderReadDone bytes s
  | .scanRecordReadDone bytes => Sys2Proof.Machine.execScanRecordReadDone bytes s
  | .readHeaderDone ack => Sys2Proof.Machine.execReadHeaderDone ack s
  | .memoryByteHeld b => Sys2Proof.Machine.execMemoryByteHeld b s
  | .relayAnswer ack => Sys2Proof.Machine.execRelayAnswer ack s
  | .relayReadByte b => Sys2Proof.Machine.execRelayReadByte b s
  | .stuckBusDetected => Sys2Proof.Machine.execStuckBusDetected s
  | .busClearAttemptEnd success => Sys2Proof.Machine.execBusClearAttemptEnd success s
  | .reloadReadRequest => Sys2Proof.Machine.execReloadReadRequest s
  | .setupSwap => Sys2Proof.Machine.execSetupSwap s

end Sys2Proof.Machine
end

