-- ==== Sys2Proof/Safety.lean ====
section
/-! DEFINITION. What a state is asked to satisfy where a statement needs it, and the invariants of the part. -/

namespace Sys2Proof.Machine

/-! ## Conditions on a state -/

/-- No step of the setup unit is due (R16, R18); where one is, it is taken before any other event (log 6). -/
def State.nothingDue (s : State) : Prop := s.reloadDue = false ∧ s.swapDue = false

/-- The arbiter has nothing to do: the bus is taken, or no request waits (R151). -/
def State.settled (s : State) : Prop := s.down.grant ≠ none ∨ (s.down.upFifo = [] ∧ s.down.intReqs = [])

/-- Nothing is due and nothing waits for a free bus. -/
def State.calm (s : State) : Prop := s.nothingDue ∧ s.settled

/-- A frame is in progress that is not dead, and no byte of it is to be held. -/
def State.inFrame (f : Frame) (s : State) : Prop :=
  s.port.frame = some f ∧ s.port.hold = .none ∧ f.dead = false

/-- A data byte of the frame has been answered (R121: the class of the header stands). -/
def Frame.hasData (f : Frame) : Prop := 0 < f.acked ∨ f.refusedData = true

/-- The port between frames (R135). -/
def Port.betweenFrames (p : Port) : Port :=
  { p with frame := none, hold := .none, holdTimer := none, idleTimer := none, answer := none, sent := none }

/-- The port at a start, with the tables in force (R117). -/
def Port.atStart (t : Tables) (p : Port) : Port :=
  { p.betweenFrames with frame := some (newFrame t), idleTimer := some t.idleLimit }

/-- The state with its frame, if any, ended and handed on. -/
def State.frameOver (s : State) : State :=
  match s.port.frame with
  | none => s
  | some _ => { s with port := s.port.betweenFrames }

/-- A mark can be acted on: the gate is OPEN, and the port is between frames or ends the frame that carries the mark
(R99, R100, R132). -/
def State.markArrives (v : Byte) (s : State) : Prop :=
  s.port.gate = .opn
    ∧ (s.port.frame = none
      ∨ ∃ f, s.port.frame = some f ∧ f.carries v = true ∧ s.port.hold = .none ∧ 0 < f.acked ∧ s.relay = none)

/-- The window after a mark with this result (R101). -/
def Window.marked (v : Byte) (r : MarkResult) (w : Window) : Window := { w with lastMark := v, result := r }

/-! ## Invariants -/

/-- What the pages of a provisional image satisfy (R26 to R28): the counter stands in the page, and while one
descriptor is held nothing before the start offset has been written. -/
def Image.lawful (i : Image) : Prop :=
  (i.page.cells = [] ∨ i.page.counter < i.page.cells.length)
    ∧ (i.second = false → i.page.startOff ≤ i.page.counter ∧ i.page.beforeStart = [])

/-- The laws of the staging store and the group queue: the pool and the descriptors suffice for what is held, and at
most three groups are sealed (R22, R44). -/
def State.storeLaw (s : State) : Prop :=
  s.heldBytes ≤ Config.poolSize ∧ s.heldDescriptors ≤ Config.descriptorCount
    ∧ s.queue.sealed.length ≤ Config.sealedMax ∧ ∀ i, s.store.image = some i → i.lawful

/-- The fairness counter is at most 8, and 0 while no internal request waits (R151). -/
def State.fairnessLaw (s : State) : Prop :=
  s.down.fairness ≤ Config.fairnessMax ∧ (s.down.intReqs = [] → s.down.fairness = 0)

/-- A record has passed every check of R9. -/
def accepted (st : Straps) (bs : List Byte) : Prop := bs.length = Config.areaSize ∧ validate st bs = .none

/-- The tables in force are the defaults while UNCONFIGURED and those of an accepted record while CONFIGURED; a
holding copy has been accepted; one device state is kept per device of the table, or for the home device (R2, R3, R9,
R16, R147). -/
def State.tablesLaw (s : State) : Prop :=
  (s.setup.config = .unconfigured → s.setup.tables = Tables.defaults ∧ s.down.states.length = 1)
    ∧ (s.setup.config = .configured →
        (∃ bs, accepted s.setup.straps bs ∧ s.setup.tables = tablesOf bs)
          ∧ s.down.states.length = s.setup.tables.devices.length)
    ∧ (∀ bs, s.setup.reload = .waitSwap → s.setup.holding = some bs → accepted s.setup.straps bs)

/-- The hold timer runs only at a hold point, the idle timer exactly in a frame while the clock is not held, and neither
between frames, where nothing is held (R127, R128, R131, R135). -/
def State.timerLaw (s : State) : Prop :=
  (s.port.holdTimer.isSome = true → s.port.hold ≠ .none)
    ∧ (s.port.idleTimer.isSome = true ↔ s.port.frame ≠ none ∧ s.port.holdTimer = none)
    ∧ (s.port.frame = none → s.port.hold = .none)

/-- A relay exists only in a RELAY frame, or in the frame after a repeated start until its device byte is classed
(R141, R144). -/
def State.relayLaw (s : State) : Prop :=
  s.relay ≠ none → ∃ f, s.port.frame = some f ∧ (f.cls = .relay ∨ (f.cls = .undecided ∧ f.headerBytes = 0))

end Sys2Proof.Machine
end

