-- ==== Sys2Proof/Certificates/Slice0/Obligations.lean ====
section
/-! DEFINITION. The statements for the provers. Each docstring says what is stated and which rules of spec/ it rests
on. Statements about one command assume that no step of the setup unit is due: `DueStepsComeFirst` says what a command
does where one is. Where they assume that the arbiter has nothing to do, `StepKeepsArbiterSettled` keeps it. -/

open Sys2Proof Sys2Proof.Machine

/-! ## The queue of commands -/

/-- A step takes the command at the front of the queue and runs it on the rest. With none waiting, what no row stands
for comes about: closing conditions under way are sent, and a clock pulse before a hold ends, with USCL held from then
on, the hold timer running and the idle timer stopped; where there is neither, the part idles (R127, R128, R131; that
an empty queue stands for this is the model's choice, log 1, log 32, log 33). -/
def Obligations.StepTakesFrontCommand : Prop :=
  (∀ (c : Instr) (cs : List Instr) (s : State), s.pending = c :: cs → step s = exec c { s with pending := cs })
  ∧ (∀ s : State, s.pending = [] → step s = .next s.takeClosing.holdClock)
  ∧ (∀ (s : State) (f : Frame), s.pending = [] → s.closingDue = false → s.port.frame = some f → s.port.hold ≠ .none →
      step s = .next { s with port := { s.port with holdTimer := some f.holdLimit, idleTimer := none } })
  ∧ (∀ s : State, s.pending = [] → s.closingDue = false → s.port.hold = .none → step s = .next s)

/-- No command changes the queue of those that wait. -/
def Obligations.CommandsKeepTheQueue : Prop :=
  ∀ (c : Instr) (s t : State), exec c s = .next t → t.pending = s.pending

/-- The event cannot come while closing conditions are on the segment and no bus clear is under way: it ends a frame, a
header, a byte, a poll attempt or a bus clear of the segment, none of which is there, or it belongs to a relay still
served (R148, R149, R155, R158); or it is a condition, a byte or a mark of an upstream frame that is held, a hold
timer's expiry with no such hold, or an idle timer's expiry with no idle timer (R118, R128, R131). -/
def outsideClosing (c : Instr) (s : State) : Prop :=
  match c with
  | .writeFrameSent | .frameRefused | .readFrameRefused | .verifyReadDone _ | .setupReadDone _ | .scanHeaderReadDone _
  | .scanRecordReadDone _ | .readHeaderDone _ | .memoryByteHeld _ | .busClearAttemptEnd _ => True
  | .pollAttemptAcknowledged | .pollAttemptNak _ | .pollIntervalElapsed | .pollExpired => s.down.poll = none
  | .relayAnswer _ | .relayReadByte _ => s.down.grant ≠ some .relay ∨ s.down.ended = true
  | .start | .repeatedStart => s.inReset = false ∧ s.port.frame ≠ none ∧ s.port.hold ≠ .none
  | .stop | .discard | .seal _ | .retry | .pause | .resume | .clear | .invalidMark _ =>
    s.port.frame ≠ none ∧ s.port.hold ≠ .none
  | .deviceByte _ | .wordAddressByte _ | .dataByte _ | .controllerAnswer _ =>
    s.port.hold ≠ .none ∧ ∃ f, s.port.frame = some f ∧ f.dead = false
  | .misplacedCondition _ => s.port.frame ≠ none ∧ s.port.hold ≠ .none ∧ s.port.holdTimer ≠ none
  | .holdTimerExpiryA => s.port.frame = none ∨ s.port.hold ≠ .a
  | .holdTimerExpiryB => s.port.frame = none ∨ s.port.hold ≠ .b
  | .idleTimerExpiry => s.port.frame = none ∨ s.port.idleTimer = none
  | .reset | .resetRelease _ _ | .stuckBusDetected | .reloadReadRequest | .setupSwap => False

/-- A due step of the setup unit is taken before any other event, and then none is due (the model's reading of "as soon
as" in R16 and "at the first moment" in R18, log 6). An event is taken within closing conditions that are under way
where it can come there, and after them where it cannot: the events that cannot are named, and any event that is
refused is refused after them too; the swap's own row finds them sent where the swap is not yet due (the model's
choice, log 33). -/
def Obligations.DueStepsComeFirst : Prop :=
  (∀ s : State, s.takeSetup.nothingDue)
  ∧ (∀ (c : Instr) (s : State), c ≠ .reset → (∀ ha sb, c ≠ .resetRelease ha sb) → c ≠ .reloadReadRequest →
      c ≠ .setupSwap →
      exec c s = exec c s.takeSetup
      ∧ (s.nothingDue → s.closingDue = true → outsideClosing c s → exec c s = exec c s.takeClosing)
      ∧ ∀ e, s.nothingDue → exec c s = .refused e → exec c s.takeClosing = .refused e)
  ∧ (∀ s : State, s.swapDue = false → exec .setupSwap s = exec .setupSwap s.takeClosing)

/-! ## Reset -/

/-- RESET brings every block to its reset value from any state (R173); the values are those of R3, R23, R44, R49,
R69, R85, R101, R108, R113, R117, R136, R141 and R147. Fields to which no rule gives a value stand as the model names
them (log 2, log 18, log 25). -/
def Obligations.ResetGivesResetValues : Prop :=
  (∀ s : State, exec .reset s = .next { State.reset with freeIndex := s.freeIndex, pending := s.pending })
  ∧ State.reset.inReset = true
  ∧ State.reset.setup.config = .unconfigured ∧ State.reset.setup.reject = .none
  ∧ State.reset.setup.tables =
      { devices := [], regions := [], ring := none, holdLimit := 25, pollLimit := 20, idleLimit := 50
        speed := .khz100, generation := 0x00 }
  ∧ State.reset.setup.reload = .none ∧ State.reset.setup.holding = none ∧ State.reset.setup.attempt = .none
  ∧ State.reset.setup.readAttempts = 0 ∧ State.reset.setup.phase = .polling
  ∧ State.reset.freePool = 1024 ∧ State.reset.freeDescriptors = 48 ∧ State.reset.store.image = none
  ∧ State.reset.queue = { openGroup := none, sealed := [], lost := false }
  ∧ State.reset.engine.state = .idle ∧ State.reset.engine.attempts = 0 ∧ State.reset.engine.pauseRequested = false
  ∧ State.reset.engine.remembered = none ∧ State.reset.engine.faultCode = .none
  ∧ State.reset.engine.faultDevice = none
  ∧ State.reset.journal = { head := 0, nextSeq := 0x0001, lastSeq := 0x0000, lastTag := 0x00, live := none, scan := none }
  ∧ State.reset.read.phase = .none ∧ State.reset.read.snapshot = none
  ∧ State.reset.forward = { one := .free, two := .free }
  ∧ State.reset.window =
      { lastMark := 0x00, result := .ok, done := false, fwdFail := false, setupNotice := false, completion := 0
        ffDevice := none, ffAddr := 0x0000 }
  ∧ State.reset.notifyLow = false
  ∧ State.reset.port.gate = .refusing ∧ State.reset.port.frame = none ∧ State.reset.port.hold = .none
  ∧ State.reset.port.holdTimer = none ∧ State.reset.port.idleTimer = none
  ∧ State.reset.port.pointers = { p0 := 0, p1 := 0, p2 := 0, p3 := 0 }
  ∧ State.reset.relay = none
  ∧ State.reset.down.upFifo = [] ∧ State.reset.down.intReqs = [] ∧ State.reset.down.grant = none
  ∧ State.reset.down.fairness = 0 ∧ State.reset.down.states = [.ready] ∧ State.reset.down.poll = none
  ∧ State.reset.down.detections = 0 ∧ State.reset.down.clears = 0 ∧ State.reset.down.speed = .khz100

/-- RESET_RELEASE samples the straps, gives every block its reset values, and begins configuration entry in POLLING:
the home poll is placed and granted at once, under the default POLL_LIMIT at 100 kHz (R1, R173, R175, R176). Out of
reset there is no release (the refusal is the model's, log 3). -/
def Obligations.ReleaseStartsHomePoll : Prop :=
  ∀ (ha : BitVec 3) (sb : Bool) (s : State),
    (s.inReset = true →
      exec (.resetRelease ha sb) s = .next
        { State.reset with
          inReset := false
          setup := { State.reset.setup with straps := { ha := ha, sb := sb } }
          down :=
            { State.reset.down with
              grant := some .homePoll
              poll := some
                { addr := 0x50#7 + ha.setWidth 7, limit := 20, followsWrite := false, afterRefusal := false
                  attempt := true } }
          freeIndex := s.freeIndex
          pending := s.pending })
    ∧ (s.inReset = false → exec (.resetRelease ha sb) s = .refused .outOfPlace)

/-! ## Conditions on the upstream segment -/

/-- Between frames a fall of USDA while USCL is high is a start, under whichever row it comes: it begins a frame
record with the limits in force and starts the idle timer, and nothing else changes; a stop ends nothing (R117, R118,
R131). In reset nothing is watched (R173). That the two rows are one event is the model's reading (log 20). -/
def Obligations.StartBeginsFrame : Prop :=
  ∀ s : State, s.nothingDue → s.port.frame = none →
    (s.inReset = false →
      ∀ c, c = .start ∨ c = .repeatedStart ∨ c = .misplacedCondition true →
        exec c s = .next
          { s with
            port :=
              { s.port with
                frame := some
                  { direction := none, devAddr := 0, dev := none, cls := .undecided, headerBytes := 0, addrHigh := 0
                    start := none, acked := 0, refusedData := false, markByte := none, filling := false, dead := false
                    holdLimit := s.setup.tables.holdLimit, idleLimit := s.setup.tables.idleLimit }
                hold := .none, holdTimer := none, idleTimer := some s.setup.tables.idleLimit, answer := none
                sent := none } })
    ∧ exec .stop s = .next s ∧ exec (.misplacedCondition false) s = .next s
    ∧ (s.inReset = true → ∀ c, c = .start ∨ c = .repeatedStart ∨ c = .misplacedCondition true → exec c s = .next s)

/-- The page image of a frame that starts at this address, with nothing written: the page base is the address with its
offset within the page removed, and the counter stands at that offset (R26, R137). -/
def emptyPage (pageSize : Nat) (a : Word) : PageImage :=
  { base := a.toNat - a.toNat % pageSize, startOff := a.toNat % pageSize, cells := List.replicate pageSize none
    counter := a.toNat % pageSize, wrapped := false }

/-- The provisional image after a byte of a STAGED frame to a device, from a start address. The first byte opens it,
with one descriptor, and stands at the start offset. A later one advances the counter, from the last position of the
page to position 0, and is written there over what the position held; at position 0 the wrapped indication is set, and
if nothing was written there a second descriptor is held (R26 to R28). -/
def stagedImage (s : State) (d : Nat) (a : Word) (b : Byte) : Image :=
  match s.store.image with
  | none =>
    let p := emptyPage (s.setup.tables.pageSize d) a
    { dev := d, page := { p with cells := p.cells.set p.startOff (some b) }, second := false }
  | some i =>
    let next := (i.page.counter + 1) % i.page.cells.length
    { dev := i.dev
      page :=
        { i.page with
          cells := i.page.cells.set next (some b), counter := next
          wrapped := i.page.wrapped || decide (next = 0) }
      second := i.second || (decide (next = 0) && (i.page.cells.getD 0 none).isNone) }

/-- The page image of a POSTED frame after a byte: written at the counter's position, over what it held, and the counter
advanced, from the last position to position 0, where the wrapped indication is set (R137). -/
def collectedPage (p : PageImage) (b : Byte) : PageImage :=
  let next := (p.counter + 1) % p.cells.length
  { p with
    cells := p.cells.set p.counter (some b), counter := next, wrapped := p.wrapped || decide (next = 0) }

/-- The runs an image is cut into, in order: with no wrap one run from the start offset, over every position written;
with a wrap and every position written one run of the full page from the page base; else a run from the start offset to
the end of the page and one from the page base to the last position reached (R32, R138). A run without a byte is none
(log 17). -/
def cutRuns (p : PageImage) : List Run :=
  let run (a : Nat) (cells : List (Option Byte)) : Run := { start := BitVec.ofNat 16 a, data := cells.filterMap id }
  let first := run (p.base + p.startOff) (p.cells.drop p.startOff)
  let second := run p.base (p.cells.take p.startOff)
  if p.wrapped = false then [first]
  else if p.cells.all Option.isSome = true then [run p.base p.cells]
  else if second.data = [] then [first]
  else [first, second]

/-- A stop of a STAGED frame makes the finalise claim: the image is gone, its runs are taken into the OPEN group one at
a time, and nothing else but the frame record changes; without an image nothing is claimed. A run within the range of
the newest entry of its device is written over that entry's bytes; any other becomes a new entry at the end of the
list, and one in the setup area of the home device sets the touches-setup flag (R32 to R34, R132). That a run without a
byte is none is the model's reading (log 17). -/
def Obligations.StopFinalisesStagedFrame : Prop :=
  (∀ (s : State) (f : Frame), s.calm → s.inFrame f → s.relay = none → f.cls = .staged → f.hasData →
    (∀ i, s.store.image = some i →
      exec .stop s = .next
        { s with
          store := { s.store with image := none }
          queue :=
            { s.queue with
              openGroup :=
                s.queue.openGroup.map fun g => (cutRuns i.page).foldl (Group.takeRun s.setup.straps i.dev) g }
          port := s.port.betweenFrames })
    ∧ (s.store.image = none → exec .stop s = .next { s with port := s.port.betweenFrames }))
  ∧ ∀ (st : Straps) (d : Nat) (g : Group) (r : Run),
      let appended : Group :=
        { g with
          entries := g.entries ++ [{ dev := d, start := r.start, data := r.data }]
          touchesSetup := g.touchesSetup || (decide (d = 0) && inArea (setupBase st) r.start.toNat) }
      ((∀ x ∈ g.entries, x.dev ≠ d) → Group.takeRun st d g r = appended)
      ∧ ∀ older e newer, g.entries = older ++ e :: newer → e.dev = d → (∀ x ∈ newer, x.dev ≠ d) →
          let k := r.start.toNat - e.start.toNat
          let within :=
            e.start.toNat ≤ r.start.toNat ∧ r.start.toNat + r.data.length ≤ e.start.toNat + e.data.length
          (within →
            Group.takeRun st d g r =
              { g with
                entries :=
                  older ++ { e with data := e.data.take k ++ r.data ++ e.data.drop (k + r.data.length) } :: newer })
          ∧ (¬ within → Group.takeRun st d g r = appended)

/-- Any other end of a STAGED frame releases its image and leaves the OPEN group as it was; MARK and REFUSED frames
end so with no effect, and a header cut short leaves nothing. After a repeated or misplaced start the next frame has
begun, after a misplaced stop or the idle timer's expiry the port is between frames (R31, R122, R133, R134). That START
in a frame is its repeated start is the model's reading (log 20). -/
def Obligations.OtherEndsDropTheFrame : Prop :=
  ∀ (s : State) (f : Frame), s.calm → s.inFrame f → s.inReset = false → s.relay = none →
    ((f.cls = .staged ∧ f.hasData) ∨ (f.cls = .mark ∧ f.hasData) ∨ (f.cls = .refused ∧ f.hasData)
      ∨ (f.cls = .undecided ∧ f.headerBytes < 3)) →
    let kept := if f.cls = .staged then { s.store with image := none } else s.store
    (∀ c, c = .start ∨ c = .repeatedStart ∨ c = .misplacedCondition true →
      exec c s = .next { s with store := kept, port := s.port.atStart s.setup.tables })
    ∧ exec (.misplacedCondition false) s = .next { s with store := kept, port := s.port.betweenFrames }
    ∧ (s.port.idleTimer ≠ none →
        exec .idleTimerExpiry s = .next { s with store := kept, port := s.port.betweenFrames })

/-- A header with no data byte is an address-setting frame whatever its class: its stop and its repeated start have
no effect but the pointer already loaded, and free a slot a POSTED header had reserved (R121, R122, R138). -/
def Obligations.HeaderAloneOnlySetsTheAddress : Prop :=
  ∀ (s : State) (f : Frame), s.calm → s.inFrame f → s.inReset = false → s.relay = none →
    f.headerBytes = 3 → f.acked = 0 → f.refusedData = false → f.markByte = none →
    let kept := match s.forward.collectingSlot with
      | some i => s.forward.set i .free
      | none => s.forward
    exec .stop s = .next { s with forward := kept, port := s.port.betweenFrames }
    ∧ exec .repeatedStart s = .next { s with forward := kept, port := s.port.atStart s.setup.tables }

/-- At the stop of a POSTED frame with an acknowledged data byte its slot becomes WAITING with the runs of its image
and a request joins the tail of the upstream FIFO. With the bus taken nothing more happens; with the bus free and the
device READY the write is granted and sent at once. A POSTED frame with data that ends in any other way queues
nothing: its slot is FREE again (R32, R132 to R134, R138, R139, R151, R154). That a run without a byte is none is the
model's reading (log 17). -/
def Obligations.PostedFrameEnds : Prop :=
  (∀ (s : State) (f : Frame) (i : SlotId) (d : Nat) (a : Word) (p : PageImage),
     s.calm → s.inFrame f → s.relay = none → f.cls = .posted → 0 < f.acked →
     s.forward.collectingSlot = some i → s.forward.get i = .collecting d a p →
     (s.down.grant ≠ none →
       exec .stop s = .next
         { s with
           forward := s.forward.set i (.waiting d (cutRuns p))
           down := { s.down with upFifo := s.down.upFifo ++ [.posted i] }
           port := s.port.betweenFrames })
     ∧ (s.down.grant = none → s.devState d = .ready →
       exec .stop s = .next
         { s with
           forward := s.forward.set i (.performing d (cutRuns p))
           down :=
             { s.down with
               upFifo := [], grant := some (.posted i), detections := 0, ended := false, speed := s.setup.tables.speed
               activity :=
                 .write (s.addrOf d) (((cutRuns p).head?.map Run.start).getD 0) ((cutRuns p).flatMap Run.data) }
           port := s.port.betweenFrames }))
  ∧ (∀ (s : State) (f : Frame) (i : SlotId) (d : Nat) (a : Word) (p : PageImage),
      s.calm → s.inFrame f → s.inReset = false → s.relay = none → f.cls = .posted → f.hasData →
      s.forward.collectingSlot = some i → s.forward.get i = .collecting d a p →
      (f.acked = 0 →
        exec .stop s = .next { s with forward := s.forward.set i .free, port := s.port.betweenFrames })
      ∧ exec .repeatedStart s = .next
          { s with forward := s.forward.set i .free, port := s.port.atStart s.setup.tables }
      ∧ exec (.misplacedCondition true) s = .next
          { s with forward := s.forward.set i .free, port := s.port.atStart s.setup.tables }
      ∧ exec (.misplacedCondition false) s = .next
          { s with forward := s.forward.set i .free, port := s.port.betweenFrames }
      ∧ (s.port.idleTimer ≠ none →
          exec .idleTimerExpiry s = .next { s with forward := s.forward.set i .free, port := s.port.betweenFrames }))

/-- The mark row of a value (section 6.2). -/
def markCommand (v : Byte) : Instr :=
  if v = 0x00 then .discard
  else if v.toNat ≤ 0xEF then .seal v
  else if v = 0xF0 then .retry
  else if v = 0xF1 then .pause
  else if v = 0xF2 then .resume
  else if v = 0xF3 then .clear
  else .invalidMark v

/-- The stop of a MARK frame whose mark byte was received whole and acknowledged does what the mark's own row does,
and the window records the mark (R100, R101, R132). What a mark row stands for is the model's reading (log 5). -/
def Obligations.StopActsOnTheMark : Prop :=
  ∀ (s : State) (f : Frame) (v : Byte), s.nothingDue → s.inFrame f → s.relay = none → s.port.gate = .opn →
    f.cls = .mark → f.markByte = some v → 0 < f.acked →
    exec .stop s = exec (markCommand v) s ∧ ∃ t, exec .stop s = .next t ∧ t.window.lastMark = v

/-- The downstream port when a READ frame's upstream frame has ended: what is in progress is finished, a byte held is
answered with a NAK and followed by a stop, and with nothing on the segment the grant goes back (R97). -/
def readEndedPort (s : State) : Downstream :=
  if s.down.grant = some .read ∧ s.down.ended = false then
    if s.down.clearing = true ∨ s.down.poll.isSome = true then { s.down with ended := true }
    else
      match s.down.activity with
      | .none => { s.down with grant := none, poll := none, clearing := false, ended := false, activity := .none }
      | .held => { s.down with ended := true, activity := .closing .nakStop false }
      | _ => { s.down with ended := true }
  else { s.down with upFifo := s.down.upFifo.filter fun q => decide (q ≠ .read) }

/-- Any end of a READ frame, dead or not, returns the read service to NONE and discards the snapshot. A request not yet
granted is withdrawn. A grant it holds is returned; what is in progress on the segment is finished first, a byte held
being answered with a NAK and followed by a stop, and the grant goes back when that has been sent (R87, R94, R97, R131,
R134, R150; for a poll or a bus clear in progress the model's reading, log 10, as is that START in a frame is its
repeated start, log 20; the closing conditions are a state of the model's, log 33). A misplaced condition and the idle
timer's expiry can come in the clock pulse before a hold too. Stated with nothing else waiting for the bus that goes
back. -/
def Obligations.ReadFrameEnds : Prop :=
  (∀ (s : State) (f : Frame), s.calm → s.port.frame = some f → s.inReset = false → s.relay = none → f.cls = .read →
     f.headerBytes < 3 →
     (s.down.grant = some .read → s.down.ended = false → s.down.upFifo = [] ∧ s.down.intReqs = []) →
     let done : State :=
       { s with read := { s.read with phase := .none, snapshot := none }, down := readEndedPort s
                port := s.port.betweenFrames }
     let next : State := { done with port := s.port.atStart s.setup.tables }
     (s.port.hold = .none →
       exec .stop s = .next done ∧ exec .start s = .next next ∧ exec .repeatedStart s = .next next)
     ∧ (s.port.holdTimer = none →
       exec (.misplacedCondition true) s = .next next ∧ exec (.misplacedCondition false) s = .next done)
     ∧ (s.port.idleTimer ≠ none → exec .idleTimerExpiry s = .next done))
  ∧ (∀ (s : State) (how : Closing), s.down.activity = .closing how false → s.down.clearing = false →
      s.down.grant = some .read →
      (s.down.ended = true → s.down.upFifo = [] → s.down.intReqs = [] →
        s.takeClosing =
          { s with
            down := { s.down with grant := none, poll := none, clearing := false, ended := false, activity := .none } })
      ∧ (s.down.ended = false → s.takeClosing = { s with down := { s.down with activity := .none } }))

/-- The downstream port when a relay's frame has been closed: an unserved target returns the grant; the home device
becomes BUSY and is polled, the grant going back when the poll ends (R144, R145, R153). -/
def relayClosedPort (s : State) (home : Bool) : Downstream :=
  if home then
    { s.down with
      states := [.busy]
      poll := some
        { addr := homeAddr s.setup.straps, limit := s.setup.tables.pollLimit, followsWrite := true
          afterRefusal := false, attempt := false }
      activity := .none, ended := true }
  else { s.down with grant := none, poll := none, clearing := false, ended := false, activity := .none }

/-- What closes a relay that is wound up: in write direction a repeated start and a stop, so that the memory writes
nothing; in read direction a NAK for the byte held, or for the one in progress, and a stop (R145). With no such byte in
read direction, and with the NAK or the repeated start passed on before, it is a stop (the model's choice, log 33). -/
def windUpClosing (r : Relay) : Closing :=
  match r.stage with
  | .readByte | .readHeld => .nakStop
  | .drained | .restarted => .stop
  | _ => if r.direction = .write then .restartStop else .stop

/-- A relay at its frame's end, in either direction and after any of its bytes: a stop closes it downstream, and after
a byte relayed into the setup area is noted as a load request, which waits for the home poll, adds nothing to an
attempt requested and is kept beside one whose read has been granted (that the first grant of a read that is repeated
counts is the model's choice, log 36); a repeated start is passed on and leaves the relay open, also in the frame that
a repeated start has just begun (in that frame the model's choice, log 21). A misplaced condition or the idle timer's
expiry winds the relay up with no report, also in the clock pulse before a hold; a byte in progress on the segment is
finished first, and a relay in write direction is closed with a repeated start before its stop, one in read direction
with a NAK for the byte held. Once the closing conditions have been sent (a state of the model's, log 33), with nothing
else waiting for the bus, the grant of an address not served goes back, and the home device is BUSY and polled (R20,
R131 to R134, R144, R145). -/
def Obligations.RelayEndsAtTheCondition : Prop :=
  (∀ (s : State) (f : Frame) (r : Relay), s.nothingDue → s.port.frame = some f → f.dead = false → s.inReset = false →
     ((f.cls = .relay ∧ (f.headerBytes = 1 ∨ f.hasData ∨ s.port.hold ≠ .none))
       ∨ (f.cls = .undecided ∧ f.headerBytes = 0)) →
     s.relay = some r → r.opened = true → r.stage ≠ .stuck →
     s.down.grant = some .relay → s.down.ended = false → s.down.clearing = false → s.down.poll = none →
     let closing : Downstream := { s.down with ended := true, activity := .closing .stop r.home.isSome }
     let windingUp : Downstream :=
       match r.stage with
       | .deviceSent | .byteSent =>
         { s.down with ended := true, activity := .windUp .write (windUpClosing r) r.home.isSome }
       | .readByte => { s.down with ended := true, activity := .windUp .read .nakStop r.home.isSome }
       | _ => { s.down with ended := true, activity := .closing (windUpClosing r) r.home.isSome }
     (s.port.hold = .none →
       exec .stop s = .next
         { s with
           relay := none
           setup :=
             if f.cls = .relay ∧ (r.home.map fun h =>
                 h.byteRelayed && inArea (setupBase s.setup.straps) h.start.toNat) = some true
               then
                 match s.setup.attempt with
                 | .none => { s.setup with attempt := .awaitPoll }
                 | .awaitPoll | .requested => s.setup
                 | .granted => { s.setup with kept := true }
             else s.setup
           down := closing
           port := s.port.betweenFrames }
       ∧ exec .repeatedStart s = .next
         { s with
           relay := some { r with stage := .restarted, naked := false }
           port := s.port.atStart s.setup.tables })
     ∧ (s.port.holdTimer = none →
       exec (.misplacedCondition true) s = .next
         { s with relay := none, down := windingUp, port := s.port.atStart s.setup.tables }
       ∧ exec (.misplacedCondition false) s = .next
         { s with relay := none, down := windingUp, port := s.port.betweenFrames })
     ∧ (s.port.idleTimer ≠ none →
       exec .idleTimerExpiry s = .next { s with relay := none, down := windingUp, port := s.port.betweenFrames }))
  ∧ (∀ (s : State) (how : Closing) (home : Bool) (st : DevState), s.down.activity = .closing how home →
      s.down.clearing = false → s.down.grant = some .relay → s.down.ended = true →
      s.setup.config = .unconfigured ∨ home = false →
      s.down.states = [st] ∨ home = false → s.down.upFifo = [] → s.down.intReqs = [] →
      s.takeClosing = { s with down := relayClosedPort s home })

/-! ## Bytes on the upstream segment -/

/-- A dead frame answers every further byte with a NAK and takes nothing else of it; the clocks of a read in it, and
any byte with no frame in progress, are nothing (R118, R126). -/
def Obligations.BytesWithoutALiveFrame : Prop :=
  ∀ (s : State), s.nothingDue →
    (∀ f, s.port.frame = some f → f.dead = true →
      (∀ (b : Byte) (c : Instr), c = .deviceByte b ∨ c = .wordAddressByte b ∨ c = .dataByte b →
        exec c s = .next { s with port := { s.port with answer := some false } })
      ∧ ∀ ack, exec (.controllerAnswer ack) s = .next s)
    ∧ (s.port.frame = none →
      ∀ (b : Byte) (ack : Bool) (c : Instr),
        c = .deviceByte b ∨ c = .wordAddressByte b ∨ c = .dataByte b ∨ c = .controllerAnswer ack →
        exec c s = .next s)

/-- While the gate is REFUSING every device byte is answered with a NAK and the frame is dead; nothing else changes.
The gate being OPEN, the device byte of a write to a served device is acknowledged at once, whatever the device's
state, and the header is collected (R119, R120, R126). -/
def Obligations.DeviceByteAtTheGate : Prop :=
  (∀ (s : State) (f : Frame) (b : Byte), s.calm → s.inFrame f → f.headerBytes = 0 → s.relay = none →
     s.port.gate = .refusing →
     ∃ t f', exec (.deviceByte b) s = .next t ∧ f'.dead = true
       ∧ t = { s with port := { s.port with frame := some f', answer := some false } })
  ∧ (∀ (s : State) (f : Frame) (a : DevAddr) (i : Nat), s.calm → s.inFrame f → f.headerBytes = 0 → s.relay = none →
      s.port.gate = .opn → s.indexOf a = some i →
      exec (.deviceByte (a ++ 0#1)) s = .next
        { s with
          port :=
            { s.port with
              frame := some
                { f with direction := some .write, devAddr := a, dev := some i, cls := .undecided, headerBytes := 1 }
              answer := some true } })

/-- The part with a READ frame requested: its device byte is to be held at A (R86, R127). -/
def readRequested (s : State) (f : Frame) (a : DevAddr) (i : Nat) : State :=
  { s with
    read := { dev := i, phase := .requested, snapshot := none }
    port :=
      { s.port with
        frame := some { f with direction := some .read, devAddr := a, dev := some i, cls := .read, headerBytes := 1 }
        hold := .a, holdTimer := none, idleTimer := some f.idleLimit, answer := none } }

/-- The device byte of a read of a served device is held at A and its request joins the tail of the upstream FIFO.
With the bus free the grant follows at once: a READY device is sent the random-read header for its shadow pointer, a
BUSY one is polled, and for a FAULTED one the byte is refused and the grant kept (R86 to R88, R120, R151, R154; that the
clock is held from the end of the eighth clock pulse on is log 32). -/
def Obligations.ServedReadIsRequested : Prop :=
  ∀ (s : State) (f : Frame) (a : DevAddr) (i : Nat), s.calm → s.inFrame f → f.headerBytes = 0 → s.relay = none →
    s.port.gate = .opn → s.indexOf a = some i →
    let u := readRequested s f a i
    let granted :=
      { s.down with
        upFifo := [], grant := some .read, detections := 0, ended := false, speed := s.setup.tables.speed }
    (s.down.grant ≠ none →
      exec (.deviceByte (a ++ 1#1)) s = .next { u with down := { s.down with upFifo := s.down.upFifo ++ [.read] } })
    ∧ (s.down.grant = none → s.devState i = .ready →
      exec (.deviceByte (a ++ 1#1)) s = .next
        { u with
          read := { u.read with phase := .opening }
          down := { granted with activity := .header (s.addrOf i) (s.port.pointers.get i) } })
    ∧ (s.down.grant = none → s.devState i = .busy →
      exec (.deviceByte (a ++ 1#1)) s = .next
        { u with
          read := { u.read with phase := .opening }
          down :=
            { granted with
              poll := some
                { addr := s.addrOf i, limit := s.setup.tables.pollLimit, followsWrite := false, afterRefusal := false
                  attempt := true }
              activity := .none } })
    ∧ (s.down.grant = none → s.devState i = .faulted →
      ∃ t, exec (.deviceByte (a ++ 1#1)) s = .next t ∧ t.port.answer = some false ∧ t.port.hold = .none
        ∧ t.port.frame.map Frame.dead = some true ∧ t.read.phase = .dead ∧ t.down.grant = some .read
        ∧ t.down.activity = .none ∧ t.down.poll = none)

/-- The part with a relay requested for a device byte held at A (R120, R142). -/
def relayRequested (s : State) (f : Frame) (a : DevAddr) (d : Direction) (b : Byte) (stage : RelayStage) : State :=
  { s with
    relay := some
      { addr := a, direction := d, opened := decide (stage = .deviceSent), naked := false, home := none, stage := stage
        byte := b }
    port :=
      { s.port with
        frame := some { f with direction := some d, devAddr := a, dev := none, cls := .relay, headerBytes := 1 }
        hold := .a, holdTimer := none, idleTimer := some f.idleLimit, answer := none } }

/-- The device byte of an address that is not served is held at A and relayed in its own direction: its request joins
the upstream FIFO, and with the bus free the byte goes out at once. After a repeated start the relay to the same
address goes on within its grant; a relay left open is closed with a stop when the next device byte is classed as
anything else, here a write to a served device; its grant goes back with the close (R120, R133, R142, R144; the closing
conditions are a state of the model's, log 33, and the clock is held from the end of the eighth clock pulse on, log 32).
-/
def Obligations.DeviceByteOfARelay : Prop :=
  (∀ (s : State) (f : Frame) (a : DevAddr) (d : Direction) (b : Byte), s.calm → s.inFrame f → f.headerBytes = 0 →
     s.port.gate = .opn → s.indexOf a = none →
     b = a ++ (match d with | .write => 0#1 | .read => 1#1) →
     (s.relay = none → s.down.grant ≠ none →
       exec (.deviceByte b) s = .next
         { relayRequested s f a d b .requested with down := { s.down with upFifo := s.down.upFifo ++ [.relay] } })
     ∧ (s.relay = none → s.down.grant = none →
       exec (.deviceByte b) s = .next
         { relayRequested s f a d b .deviceSent with
           down :=
             { s.down with
               upFifo := [], grant := some .relay, detections := 0, ended := false, speed := s.setup.tables.speed } })
     ∧ (∀ r, s.relay = some r → r.stage = .restarted → r.home = none → r.addr = a → r.opened = true →
       exec (.deviceByte b) s = .next (relayRequested s f a d b .deviceSent)))
  ∧ (∀ (s : State) (f : Frame) (a : DevAddr) (i : Nat) (r : Relay), s.nothingDue → s.inFrame f → f.headerBytes = 0 →
      s.port.gate = .opn → s.indexOf a = some i → s.relay = some r → r.opened = true → s.down.grant = some .relay →
      s.down.ended = false → s.down.clearing = false → s.down.poll = none →
      exec (.deviceByte (a ++ 0#1)) s = .next
        { s with
          relay := none
          down := { s.down with ended := true, activity := .closing .stop r.home.isSome }
          port :=
            { s.port with
              frame := some
                { f with direction := some .write, devAddr := a, dev := some i, cls := .undecided, headerBytes := 1 }
              answer := some true } })

/-- The classified frame after its second word-address byte, with the pointer loaded and the byte acknowledged (R121,
R123). -/
def headerTaken (s : State) (f : Frame) (d : Nat) (a : Word) (c : FrameClass) : State :=
  { s with
    port :=
      { s.port with
        frame := some { f with cls := c, start := some a, headerBytes := 3 }
        pointers := s.port.pointers.set d a, answer := some true } }

/-- The header of a write to a served device: the first word-address byte is kept and acknowledged; the second forms
the start address, high byte first, reduced modulo the capacity while CONFIGURED, classes the frame by the address
class of that address, loads the pointer and is acknowledged at once. Only a POSTED frame that meets a full forward
queue holds the byte at A, with the pointer not loaded; one that finds a FREE slot reserves it (R121, R123, R130,
R137; which slot, where both are FREE, is the model's choice, log 16, and so is that the pointer is loaded with the
eighth bit's event, whether or not the acknowledge clock is cut, log 37; the clock is held from the end of the eighth
clock pulse on, log 32). -/
def Obligations.HeaderClassesTheFrame : Prop :=
  ∀ (s : State) (f : Frame) (b : Byte) (d : Nat), s.nothingDue → s.inFrame f → f.cls = .undecided → f.dev = some d →
    (f.headerBytes = 1 →
      exec (.wordAddressByte b) s = .next
        { s with
          port := { s.port with frame := some { f with addrHigh := b, headerBytes := 2 }, answer := some true } })
    ∧ (f.headerBytes = 2 → s.setup.config = .configured →
      let a := BitVec.ofNat 16 ((f.addrHigh ++ b).toNat % s.setup.tables.capacity d)
      let cls := classify s.setup.straps s.setup.tables d a.toNat
      (cls = .control → exec (.wordAddressByte b) s = .next (headerTaken s f d a .mark))
      ∧ (cls = .setup ∨ cls = .guarded → exec (.wordAddressByte b) s = .next (headerTaken s f d a .staged))
      ∧ (cls = .ring → exec (.wordAddressByte b) s = .next (headerTaken s f d a .refused))
      ∧ (∀ i, cls = .opn → s.forward.freeSlot = some i →
        exec (.wordAddressByte b) s = .next
          { headerTaken s f d a .posted with
            forward := s.forward.set i (.collecting d a (emptyPage (s.setup.tables.pageSize d) a)) })
      ∧ (cls = .opn → s.forward.freeSlot = none →
        exec (.wordAddressByte b) s = .next
          { s with
            port :=
              { s.port with
                frame := some { f with cls := .posted, start := some a, headerBytes := 3 }
                hold := .a, holdTimer := none, idleTimer := some f.idleLimit, answer := none } }))
    ∧ (f.headerBytes = 2 → s.setup.config = .unconfigured →
      let a : Word := f.addrHigh ++ b
      (inArea (windowBase s.setup.straps) a.toNat = true →
        exec (.wordAddressByte b) s = .next (headerTaken s f d a .mark))
      ∧ (inArea (windowBase s.setup.straps) a.toNat = false →
        exec (.wordAddressByte b) s = .next (headerTaken s f d a .relay)))

/-- The pointer of a device after a data byte of a write frame is acknowledged: on by one, within the page while
CONFIGURED, without page wrap while UNCONFIGURED (R123). -/
def pointerAfterWrite (s : State) (d : Nat) : Word :=
  let p := s.port.pointers.get d
  if s.setup.config = .configured then
    let n := s.setup.tables.pageSize d
    BitVec.ofNat 16 (p.toNat - p.toNat % n + (p.toNat % n + 1) % n)
  else p + 1

/-- A data byte acknowledged: counted, with the pointer moved on (R123). -/
def dataAcked (s : State) (f : Frame) (d : Nat) : Port :=
  { s.port with
    frame := some { f with acked := f.acked + 1 }
    pointers := s.port.pointers.set d (pointerAfterWrite s d), answer := some true }

/-- A data byte answered with a NAK: the pointer stays (R123, R125). -/
def dataRefused (s : State) (f : Frame) : Port :=
  { s.port with frame := some { f with refusedData := true }, answer := some false }

/-- A data byte of a STAGED frame is acknowledged exactly when its reservation can be met: the image then holds it.
A reservation that fails frees the image and every entry of the OPEN group and sets LOST; while LOST is set, and after
a refusal in the same frame, every byte is refused and claims nothing (R25 to R30, R123, R125). That the byte counts and
moves the pointer with its eighth bit, whether or not the acknowledge clock is cut, is the model's choice (log 37). -/
def Obligations.StagedByteReservesOrLoses : Prop :=
  ∀ (s : State) (f : Frame) (b : Byte) (d : Nat) (a : Word), s.nothingDue → s.inFrame f → f.cls = .staged →
    f.dev = some d → f.start = some a →
    (s.queue.lost = false → f.refusedData = false → s.canReserve d a b = true →
      exec (.dataByte b) s = .next
        { s with store := { s.store with image := some (stagedImage s d a b) }, port := dataAcked s f d })
    ∧ (s.queue.lost = false → f.refusedData = false → s.canReserve d a b = false →
      exec (.dataByte b) s = .next
        { s with
          store := { s.store with image := none }
          queue :=
            { s.queue with
              openGroup := s.queue.openGroup.map fun g => { g with entries := [], touchesSetup := false }
              lost := true }
          port := dataRefused s f })
    ∧ (s.queue.lost = true ∨ f.refusedData = true →
      exec (.dataByte b) s = .next { s with port := dataRefused s f })

/-- What a reservation needs: no load claim waiting; for the first byte one pool byte and one descriptor; for a later
byte at a position not yet written one pool byte, and one descriptor more when that position is the first of the page
and only one is held; for a position already written nothing (R26 to R29, R172). -/
def Obligations.WhatAReservationNeeds : Prop :=
  ∀ (s : State) (d : Nat) (a : Word) (b : Byte),
    (s.store.claims ≠ [] → s.canReserve d a b = false)
    ∧ (s.store.claims = [] → s.store.image = none → 0 < s.setup.tables.pageSize d →
        (s.canReserve d a b = true ↔ 1 ≤ s.freePool ∧ 1 ≤ s.freeDescriptors))
    ∧ (∀ i, s.store.claims = [] → s.store.image = some i → 0 < i.page.cells.length →
        let next := (i.page.counter + 1) % i.page.cells.length
        (i.page.cells.getD next none ≠ none → s.canReserve d a b = true)
        ∧ (i.page.cells.getD next none = none → next ≠ 0 ∨ i.second = true →
            (s.canReserve d a b = true ↔ 1 ≤ s.freePool))
        ∧ (i.page.cells.getD next none = none → next = 0 → i.second = false →
            (s.canReserve d a b = true ↔ 1 ≤ s.freePool ∧ 1 ≤ s.freeDescriptors)))

/-- A MARK frame takes one byte, the first, at offset 0 of the control window, and refuses every other; a REFUSED
frame refuses every data byte (R99, R123, R125). That the byte counts and moves the pointer with its eighth bit, whether
or not the acknowledge clock is cut, is the model's choice (log 37). -/
def Obligations.MarkAndRefusedDataBytes : Prop :=
  ∀ (s : State) (f : Frame) (b : Byte) (d : Nat) (a : Word), s.nothingDue → s.inFrame f → f.dev = some d →
    f.start = some a →
    (f.cls = .mark → f.acked = 0 → f.refusedData = false → a = BitVec.ofNat 16 (windowBase s.setup.straps) →
      exec (.dataByte b) s = .next
        { s with port := { dataAcked s f d with frame := some { f with acked := f.acked + 1, markByte := some b } } })
    ∧ (f.cls = .mark → (f.acked ≠ 0 ∨ f.refusedData = true ∨ a ≠ BitVec.ofNat 16 (windowBase s.setup.straps)) →
      exec (.dataByte b) s = .next { s with port := dataRefused s f })
    ∧ (f.cls = .refused → exec (.dataByte b) s = .next { s with port := dataRefused s f })

/-- The data bytes of a POSTED frame are written into the image of its slot and acknowledged, unless the device is
FAULTED at the first: then every one is refused and none is kept (R123, R125, R137). That the byte counts and moves the
pointer with its eighth bit, whether or not the acknowledge clock is cut, is the model's choice (log 37). -/
def Obligations.PostedByteIsCollected : Prop :=
  ∀ (s : State) (f : Frame) (b : Byte) (d e : Nat) (a : Word) (i : SlotId) (p : PageImage), s.nothingDue →
    s.inFrame f → f.cls = .posted → f.dev = some d → s.forward.collectingSlot = some i →
    s.forward.get i = .collecting e a p →
    (f.refusedData = false → (f.acked = 0 → s.devState d ≠ .faulted) →
      exec (.dataByte b) s = .next
        { s with forward := s.forward.set i (.collecting e a (collectedPage p b)), port := dataAcked s f d })
    ∧ (f.refusedData = true ∨ (f.acked = 0 ∧ s.devState d = .faulted) →
      exec (.dataByte b) s = .next { s with port := dataRefused s f })

/-- A byte of an open relay is held at A and goes downstream; after a refused byte every later one is refused and not
sent. The first data byte of a home write while UNCONFIGURED is held and its relay requested (R121, R125, R142, R143;
the clock is held from the end of the eighth clock pulse on, log 32). That a word-address byte of such a frame is a
byte like any other is the model's reading (log 22). -/
def Obligations.RelayedByteIsHeld : Prop :=
  ∀ (s : State) (f : Frame) (b : Byte), s.calm → s.inFrame f → f.cls = .relay → f.direction = some .write →
    let held := { s.port with hold := .a, holdTimer := none, idleTimer := some f.idleLimit, answer := none }
    (f.refusedData = true → exec (.dataByte b) s = .next { s with port := dataRefused s f })
    ∧ (∀ r, f.refusedData = false → s.relay = some r → r.stage = .opn →
        exec (.dataByte b) s = .next { s with relay := some { r with stage := .byteSent, byte := b }, port := held }
        ∧ (f.headerBytes = 1 → exec (.wordAddressByte b) s = exec (.dataByte b) s))
    ∧ (∀ a, f.refusedData = false → s.relay = none → f.start = some a → s.down.grant ≠ none →
        exec (.dataByte b) s = .next
          { s with
            relay := some
              { addr := homeAddr s.setup.straps, direction := .write, opened := false, naked := false
                home := some { start := a, byteRelayed := false }, stage := .requested, byte := b }
            down := { s.down with upFifo := s.down.upFifo ++ [.relay] }
            port := held })

/-- The controller's answer to a byte of a proxy read moves the shadow pointer on by one, from the capacity less one to
0. An ack begins the next byte, for which the clock is to be held at B, a NAK drains the frame and its downstream frame
is closed with that NAK and a stop; in FILLING every answer brings another FFh; in DRAINED clocks are nothing. In a
relayed read an ack asks for the memory's next byte, to be held at B; after a NAK nothing further is clocked; a filling
frame sends FFh (R89, R90, R95, R127, R129, R143; that the hold is decided with the ack and taken at the end of its
clock pulse, and the closing conditions, are the model's way to show them, log 32, log 33; that the frame record counts
no byte of a read is its choice, log 35). -/
def Obligations.ControllerAnswersAByte : Prop :=
  (∀ (s : State) (f : Frame) (ack : Bool), s.nothingDue → s.inFrame f → f.cls = .read →
     let d := s.read.dev
     let moved :=
       s.port.pointers.set d (BitVec.ofNat 16 (((s.port.pointers.get d).toNat + 1) % s.setup.tables.capacity d))
     (s.read.phase = .streaming → s.down.activity = .held → s.down.clearing = false →
       exec (.controllerAnswer true) s = .next
         { s with
           port :=
             { s.port with
               pointers := moved, hold := .b, holdTimer := none, idleTimer := some f.idleLimit }
           down := { s.down with activity := .byte } }
       ∧ exec (.controllerAnswer false) s = .next
         { s with
           port := { s.port with pointers := moved }
           down := { s.down with activity := .closing .nakStop false }
           read := { s.read with phase := .drained } })
     ∧ (s.read.phase = .filling →
       exec (.controllerAnswer ack) s = .next { s with port := { s.port with pointers := moved, sent := some 0xFF } })
     ∧ (s.read.phase = .drained → exec (.controllerAnswer ack) s = .next s))
  ∧ (∀ (s : State) (f : Frame) (r : Relay) (ack : Bool), s.nothingDue → s.inFrame f → f.cls = .relay →
      f.direction = some .read →
      (f.filling = false → s.relay = some r → r.stage = .readHeld →
        exec (.controllerAnswer true) s = .next
          { s with
            relay := some { r with stage := .readByte }
            port := { s.port with hold := .b, holdTimer := none, idleTimer := some f.idleLimit } }
        ∧ exec (.controllerAnswer false) s = .next { s with relay := some { r with stage := .drained } })
      ∧ (f.filling = false → s.relay = some r → r.stage = .drained → exec (.controllerAnswer ack) s = .next s)
      ∧ (f.filling = true →
        exec (.controllerAnswer ack) s = .next { s with port := { s.port with sent := some 0xFF } }))

/-! ## The hold timer -/

/-- The port after the expiry at A: the byte is answered with a NAK, the clock released and the frame dead (R126,
R128). -/
def heldRefused (s : State) (f : Frame) : Port :=
  { s.port with
    frame := some { f with dead := true }
    hold := .none, holdTimer := none, idleTimer := some f.idleLimit, answer := some false }

/-- The hold timer's expiry at A answers the held byte with a NAK, and the frame is dead. A READ or a relay not yet
granted is withdrawn; a granted READ keeps its grant, and its poll, its bus clear or its header runs on; a relay whose
byte is on the segment is wound up once that byte is finished, with a repeated start and a stop in write direction
(after a device byte in read direction with a stop, the model's choice, log 33), and one that is polling or in a bus
clear ends with that; a held POSTED frame leaves the forward queue alone (R94, R128, R130, R145, R150; that a relay's
poll or bus clear is finished first is the model's reading, log 11; that the expiry finds the hold taken, log 32). -/
def Obligations.HoldExpiryAtARefuses : Prop :=
  ∀ (s : State) (f : Frame), s.calm → s.port.frame = some f → s.port.hold = .a →
    (f.cls = .read → s.down.grant ≠ some .read →
      exec .holdTimerExpiryA s = .next
        { s with
          port := heldRefused s f
          read := { s.read with phase := .dead }
          down := { s.down with upFifo := s.down.upFifo.filter (· ≠ .read) } })
    ∧ (f.cls = .read → s.down.grant = some .read → s.down.ended = false →
      exec .holdTimerExpiryA s = .next { s with port := heldRefused s f, read := { s.read with phase := .dead } })
    ∧ (f.cls = .posted → exec .holdTimerExpiryA s = .next { s with port := heldRefused s f })
    ∧ (f.cls = .relay → s.relay ≠ none → s.down.grant ≠ some .relay →
      exec .holdTimerExpiryA s = .next
        { s with
          port := heldRefused s f
          relay := none
          down := { s.down with upFifo := s.down.upFifo.filter (· ≠ .relay) } })
    ∧ (∀ r, f.cls = .relay → s.relay = some r → s.down.grant = some .relay → s.down.ended = false →
      (s.down.clearing = true ∨ s.down.poll ≠ none →
        exec .holdTimerExpiryA s = .next
          { s with port := heldRefused s f, relay := none, down := { s.down with ended := true } })
      ∧ (s.down.clearing = false → s.down.poll = none → r.opened = true → r.stage = .deviceSent ∨ r.stage = .byteSent →
        exec .holdTimerExpiryA s = .next
          { s with
            port := heldRefused s f
            relay := none
            down := { s.down with ended := true, activity := .windUp .write (windUpClosing r) r.home.isSome } }))

/-- The hold timer's expiry at B releases the clock and fills: the byte awaited is sent as FFh. A READ frame keeps its
grant, and the byte or header in progress runs on; a relay is wound up once the memory's byte is finished, which is
answered with a NAK and followed by a stop (R95, R129, R145; that the expiry finds the hold taken, log 32). -/
def Obligations.HoldExpiryAtBFills : Prop :=
  ∀ (s : State) (f : Frame), s.calm → s.port.frame = some f → s.port.hold = .b →
    let filled :=
      { s.port with hold := .none, holdTimer := none, idleTimer := some f.idleLimit, sent := some 0xFF }
    (f.cls = .read →
      exec .holdTimerExpiryB s = .next { s with port := filled, read := { s.read with phase := .filling } })
    ∧ (∀ r, f.cls = .relay → s.relay = some r → s.down.grant = some .relay → s.down.ended = false →
      s.down.clearing = false → s.down.poll = none → r.opened = true → r.stage = .readByte →
      exec .holdTimerExpiryB s = .next
        { s with
          port := { filled with frame := some { f with filling := true } }
          relay := none
          down := { s.down with ended := true, activity := .windUp .read .nakStop r.home.isSome } })

/-! ## Marks -/

/-- DISCARD frees every entry of the OPEN group and clears LOST; CLEAR clears DONE, FWD_FAIL and SETUP and the
forward-failure fields; an invalid mark has no effect. The window records the mark and its result, and nothing else
changes (R36, R101, R102, R106, R107). A mark row between frames is the model's (log 5). -/
def Obligations.DiscardClearAndInvalidMarks : Prop :=
  ∀ s : State, s.calm →
    (s.markArrives 0x00 →
      exec .discard s = .next
        { s.frameOver with
          queue :=
            { s.queue with
              openGroup := s.queue.openGroup.map fun g => { g with entries := [], touchesSetup := false }
              lost := false }
          window := s.window.marked 0x00 .ok })
    ∧ (s.markArrives 0xF3 →
      exec .clear s = .next
        { s.frameOver with
          window :=
            { s.window with
              lastMark := 0xF3, result := .ok, done := false, fwdFail := false, setupNotice := false
              ffDevice := none, ffAddr := 0x0000 } })
    ∧ (∀ v : Byte, 0xF4 ≤ v.toNat → s.markArrives v →
      exec (.invalidMark v) s = .next { s.frameOver with window := s.window.marked v .badMark })

/-- A SEAL that fails its tests, taken in the order UNCONFIGURED, LOST, EMPTY, QUEUE_FULL, changes only what the
window records (R37, R45, R103). A mark row between frames is the model's (log 5). -/
def Obligations.SealRefusals : Prop :=
  ∀ (s : State) (tag : Byte), s.calm → 1 ≤ tag.toNat → tag.toNat ≤ 0xEF → s.markArrives tag →
    (s.setup.config = .unconfigured →
      exec (.seal tag) s = .next { s.frameOver with window := s.window.marked tag .unconfigured })
    ∧ (∀ g, s.setup.config = .configured → s.queue.openGroup = some g →
      (s.queue.lost = true → exec (.seal tag) s = .next { s.frameOver with window := s.window.marked tag .lost })
      ∧ (s.queue.lost = false → g.entries = [] →
          exec (.seal tag) s = .next { s.frameOver with window := s.window.marked tag .empty })
      ∧ (s.queue.lost = false → g.entries ≠ [] → 3 ≤ s.queue.sealed.length →
          exec (.seal tag) s = .next { s.frameOver with window := s.window.marked tag .queueFull }))

/-- Where a new record is placed: at the head if its pages fit before the end of the ring, else at the ring's first
page (R72, R74). -/
def newPlacement (s : State) (es : List Entry) : Placement :=
  let count := (16 + 4 * es.length + (es.map fun e => e.data.length).sum + s.ringPageSize - 1) / s.ringPageSize
  if s.journal.head - s.ring.firstPage + count ≤ s.ring.pageCount then { first := s.journal.head, count := count }
  else { first := s.ring.firstPage, count := count }

/-- A SEAL that passes its tests makes the OPEN group a sealed group with the mark as tag and the next sequence number,
and begins a new, empty OPEN group. An IDLE engine that is not paused starts it at once with the first page of its
journal pass, which is sent at once if the bus is free and the ring device READY (R37, R45, R46, R51, R52, R74). A mark
row between frames is the model's (log 5). -/
def Obligations.SealMakesASealedGroup : Prop :=
  ∀ (s : State) (tag : Byte) (g : Group), s.calm → 1 ≤ tag.toNat → tag.toNat ≤ 0xEF → s.markArrives tag →
    s.setup.config = .configured → s.queue.openGroup = some g → s.queue.lost = false → g.entries ≠ [] →
    s.queue.sealed.length < 3 →
    let sealedGroup := { g with state := .sealed, tag := some tag, seq := some s.journal.nextSeq }
    (s.engine.state ≠ .idle ∨ s.engine.pauseRequested = true →
      exec (.seal tag) s = .next
        { s.frameOver with
          queue := { s.queue with openGroup := some Group.empty, sealed := s.queue.sealed ++ [sealedGroup] }
          journal := { s.journal with nextSeq := s.journal.nextSeq + 1 }
          window := s.window.marked tag .ok })
    ∧ (s.engine.state = .idle → s.engine.pauseRequested = false → s.queue.sealed = [] → g.placement = none →
      let p := newPlacement s g.entries
      let journaling := { sealedGroup with state := .journaling, passes := g.passes + 1, placement := some p }
      let started : State :=
        { s.frameOver with
          queue := { s.queue with openGroup := some Group.empty, sealed := [journaling] }
          journal := { s.journal with nextSeq := s.journal.nextSeq + 1, live := some p }
          engine := { s.engine with state := .phase .journal, pointer := 0, attempts := 0, remembered := none }
          window := s.window.marked tag .ok }
      (s.down.grant ≠ none →
        exec (.seal tag) s = .next { started with down := { s.down with intReqs := s.down.intReqs ++ [.engine] } })
      ∧ (s.down.grant = none → s.devState s.ring.dev = .ready →
        exec (.seal tag) s = .next
          { started with
            down :=
              { s.down with
                intReqs := [], grant := some .engine, fairness := 0, detections := 0, ended := false
                speed := s.setup.tables.speed
                activity := .write (s.addrOf s.ring.dev) (BitVec.ofNat 16 (p.first * s.ringPageSize))
                  ((recordImage journaling p.count).take s.ringPageSize) } }))

/-- The engine's request, the only one, is granted on a free bus, its device is READY and the step's frame is sent (R50,
R151, R154, R157). -/
def stepSent (s : State) : State :=
  { s with
    down :=
      { s.down with
        intReqs := [], grant := some .engine, fairness := 0, detections := 0, ended := false
        speed := s.setup.tables.speed, activity := s.stepFrame } }

/-- RETRY makes every FAULTED device READY. A HALTED engine leaves HALTED at its halted step, with its fault cleared
and its attempts at 0, and a group halted with VERIFY_FAILED may journal three times again; with a pause requested it
enters PAUSED there. The step it goes to is requested, and the arbiter grants: with the bus taken the request waits, and
with the bus free and the step's device READY the step's frame is sent at once. Otherwise the result is NOT_HALTED (R59,
R63, R66, R104, R151, R154, R163). A mark row between frames is the model's (log 5). -/
def Obligations.RetryRunsTheHaltedStep : Prop :=
  ∀ s : State, s.calm → s.markArrives 0xF0 →
    let states := s.down.states.map fun d => if d = .faulted then .ready else d
    let sealed' :=
      if s.engine.faultCode = .verifyFailed then
        match s.queue.sealed with
        | [] => []
        | g :: gs => { g with passes := 0 } :: gs
      else s.queue.sealed
    (s.engine.state ≠ .halted →
      exec .retry s = .next
        { s.frameOver with down := { s.down with states := states }, window := s.window.marked 0xF0 .notHalted })
    ∧ (∀ p k, s.engine.state = .halted → s.engine.remembered = some (.step p k) → s.engine.pauseRequested = false →
      let retried : State :=
        { s.frameOver with
          queue := { s.queue with sealed := sealed' }
          engine :=
            { s.engine with
              state := .phase p, pointer := k, attempts := 0, remembered := none, faultCode := .none
              faultDevice := none }
          down := { s.down with states := states, intReqs := s.down.intReqs ++ [.engine] }
          window := s.window.marked 0xF0 .ok }
      exec .retry s = .next (s.conclude retried)
      ∧ (s.down.grant ≠ none → exec .retry s = .next retried)
      ∧ (s.down.grant = none → retried.devState retried.stepDevice = .ready →
        exec .retry s = .next (stepSent retried)))
    ∧ (∀ n, s.engine.state = .halted → s.engine.remembered = some n → s.engine.pauseRequested = true →
      exec .retry s = .next
        { s.frameOver with
          queue := { s.queue with sealed := sealed' }
          engine :=
            { s.engine with
              state := .paused, attempts := 0, remembered := some n, faultCode := .none, faultDevice := none }
          down := { s.down with states := states }
          window := s.window.marked 0xF0 .ok })

/-- PAUSE sets PAUSE_REQUESTED, and an IDLE engine enters PAUSED at once. RESUME clears it and takes a PAUSED engine to
the step it remembers; one that remembers IDLE starts the oldest sealed group at once, if there is one, with its
journal pass, or a replay group with its next entry, and one that remembers a fresh pass begins it. The step is
requested, and the arbiter grants: with the bus taken the request waits, and with the bus free and the step's device
READY its frame is sent at once. With no pause requested RESUME gives NOT_PAUSED and changes nothing else (R51, R52,
R54, R56, R64 to R66, R105, R151, R154). A mark row between frames is the model's (log 5), and so is the reading of
when a paused pass is counted (log 23). -/
def Obligations.PauseAndResume : Prop :=
  ∀ s : State, s.calm →
    (s.markArrives 0xF1 →
      exec .pause s = .next
        { s.frameOver with
          engine :=
            if s.engine.state = .idle then
              { s.engine with state := .paused, attempts := 0, pauseRequested := true, remembered := some .idle }
            else { s.engine with pauseRequested := true }
          window := s.window.marked 0xF1 .ok })
    ∧ (s.markArrives 0xF2 →
      let resumed (p : Phase) (k : Nat) : State :=
        { s.frameOver with
          engine :=
            { s.engine with
              state := .phase p, pointer := k, attempts := 0, pauseRequested := false, remembered := none }
          down := { s.down with intReqs := s.down.intReqs ++ [.engine] }
          window := s.window.marked 0xF2 .ok }
      let runs (t : State) : Prop :=
        exec .resume s = .next (s.conclude t)
        ∧ (s.down.grant ≠ none → exec .resume s = .next t)
        ∧ (s.down.grant = none → t.devState t.stepDevice = .ready → exec .resume s = .next (stepSent t))
      (∀ p k, s.engine.state = .paused → s.engine.remembered = some (.step p k) → runs (resumed p k))
      ∧ (∀ g gs, s.engine.state = .paused → s.queue.sealed = g :: gs →
        (s.engine.remembered = some .freshPass
            ∨ (s.engine.remembered = some .idle ∧ s.setup.config = .configured ∧ g.state ≠ .applying) →
          let p := g.placement.getD (newPlacement s g.entries)
          runs
            { resumed .journal 0 with
              queue :=
                { s.queue with
                  sealed := { g with state := .journaling, passes := g.passes + 1, placement := some p } :: gs }
              journal := { s.journal with live := some p } })
        ∧ (s.engine.remembered = some .idle → s.setup.config = .configured → g.state = .applying →
          runs { resumed .apply g.progress with journal := { s.journal with live := g.placement } }))
      ∧ (s.engine.state = .paused → s.engine.remembered = some .idle → s.queue.sealed = [] →
        exec .resume s = .next
          { s.frameOver with
            engine := { s.engine with state := .idle, attempts := 0, pauseRequested := false, remembered := none }
            window := s.window.marked 0xF2 .ok })
      ∧ (s.engine.state ≠ .paused → s.engine.pauseRequested = true →
        exec .resume s = .next
          { s.frameOver with
            engine := { s.engine with pauseRequested := false }, window := s.window.marked 0xF2 .ok })
      ∧ (s.engine.state ≠ .paused → s.engine.pauseRequested = false →
        exec .resume s = .next { s.frameOver with window := s.window.marked 0xF2 .notPaused }))

/-! ## Polls and the part's own frames -/

/-- Configuration entry ends and opens the upstream port, if it stands at this phase: REPLAYING at a halt, RELOADING at
the end of the reload (R171, R180 to R182). -/
def entryOver (p : EntryPhase) (s : State) : State :=
  if s.setup.phase = p then
    { s with setup := { s.setup with phase := .none }, port := { s.port with gate := .opn } }
  else s

/-- A poll attempt is on the segment for this requester. -/
def polling (s : State) (r : Requester) (p : Poll) : Prop :=
  s.nothingDue ∧ s.down.grant = some r ∧ s.down.poll = some p ∧ p.attempt = true ∧ s.down.clearing = false

/-- The downstream port with the bus returned (R149). -/
def busFreed (d : Downstream) : Downstream :=
  { d with grant := none, poll := none, clearing := false, ended := false, activity := .none }

/-- The acknowledged attempt of a poll made before a frame makes the device READY, and the frame is sent within the
same grant: the posted write, the engine's step, the random-read header, the home relay's header and byte, or the setup
read (R50, R87, R88, R139, R142, R153 to R155). What the part sends of each form is the device byte with the direction
bit lowest, the word address high byte first, then the data or the device byte in read direction (R148, R185). The
engine's step of the oldest sealed group: a journal page writes the record bytes of that page at its ring page, the
verify read covers the whole record, the commit field at record offset 12 takes the complement of the sequence number,
an apply step writes its entry to the entry's device and start address, and the retire field at offset 14 takes the
sequence number. The record is the header and one item for each entry (R52, R53, R55 to R57, R71, R72, R187). -/
def Obligations.AcknowledgedPollSendsTheFrame : Prop :=
  (∀ (a : DevAddr) (w : Word) (bs : List Byte) (n : Nat),
    let high : Byte := BitVec.ofNat 8 (w.toNat / 256)
    let low : Byte := BitVec.ofNat 8 (w.toNat % 256)
    (Activity.write a w bs).sent = [a ++ 0#1, high, low] ++ bs
    ∧ (Activity.header a w).sent = [a ++ 0#1, high, low, a ++ 1#1]
    ∧ (Activity.read a w n).sent = [a ++ 0#1, high, low, a ++ 1#1]
    ∧ ∀ (r : Relay) (h : HomeRelay), r.addr = a → h.start = w → r.home = some h →
        r.sent = [a ++ 0#1, high, low, r.byte])
  ∧ (∀ (s : State) (g : Group) (gs : List Group) (pl : Placement) (q : Word) (tag : Byte),
      s.queue.sealed = g :: gs → g.placement = some pl → g.seq = some q → g.tag = some tag →
      let two (w : Word) : List Byte := [BitVec.ofNat 8 (w.toNat / 256), BitVec.ofNat 8 (w.toNat % 256)]
      let n := s.setup.tables.pageSize s.ring.dev
      let ring := s.addrOf s.ring.dev
      let address (offset : Nat) : Word := BitVec.ofNat 16 (pl.first * n + offset)
      let size := 16 + 4 * g.entries.length + (g.entries.map fun e => e.data.length).sum
      let header : List Byte :=
        [0xA6, 0x19] ++ two q ++ [tag, BitVec.ofNat 8 g.entries.length] ++ two (BitVec.ofNat 16 (size - 16))
          ++ two (BitVec.ofNat 16 pl.count)
      let payload : List Byte :=
        g.entries.flatMap fun e =>
          [BitVec.ofNat 8 e.dev] ++ two e.start ++ [BitVec.ofNat 8 e.data.length] ++ e.data
      let record := header ++ two (crc16 (header ++ payload)) ++ two q ++ two (~~~ q) ++ payload
      recordImage g pl.count = record
      ∧ (s.engine.state = .phase .journal →
        s.stepFrame = .write ring (address (s.engine.pointer * n)) ((record.drop (s.engine.pointer * n)).take n))
      ∧ (s.engine.state = .phase .verify → s.stepFrame = .read ring (address 0) size)
      ∧ (s.engine.state = .phase .commit → s.stepFrame = .write ring (address 12) (two (~~~ q)))
      ∧ (∀ e, s.engine.state = .phase .apply → g.entries[s.engine.pointer]? = some e →
        s.stepFrame = .write (s.addrOf e.dev) e.start e.data)
      ∧ (s.engine.state = .phase .retire → s.stepFrame = .write ring (address 14) (two q)))
  ∧ ∀ (s : State) (p : Poll) (i : Nat), p.followsWrite = false → s.indexOf p.addr = some i →
    let states := s.down.states.set i .ready
    let sent (a : Activity) : Downstream := { s.down with states := states, poll := none, activity := a }
    (∀ j d rs, polling s (.posted j) p → s.forward.get j = .performing d rs →
      exec .pollAttemptAcknowledged s = .next
        { s with
          down := sent (.write (s.addrOf d) ((rs.head?.map Run.start).getD 0) (rs.flatMap Run.data)) })
    ∧ (polling s .engine p →
      exec .pollAttemptAcknowledged s = .next { s with down := sent s.stepFrame })
    ∧ (polling s .read p → s.read.phase = .opening → s.down.ended = false →
      exec .pollAttemptAcknowledged s = .next
        { s with down := sent (.header (s.addrOf s.read.dev) (s.port.pointers.get s.read.dev)) })
    ∧ (∀ r, polling s .relay p → s.relay = some r → s.down.ended = false →
      exec .pollAttemptAcknowledged s = .next
        { s with
          relay := some { r with stage := .byteSent, opened := true }
          down := { s.down with states := states, poll := none } })
    ∧ (polling s .setupRead p →
      exec .pollAttemptAcknowledged s = .next
        { s with
          down := sent (.read (homeAddr s.setup.straps) (BitVec.ofNat 16 (setupBase s.setup.straps)) 128) })

/-- The acknowledged poll after a write ends its operation: a posted write's slot is FREE, and a POSTED frame held for
it takes the slot, with its byte acknowledged and its pointer loaded; the home poll of configuration entry is followed
by the setup read; after a relayed home write the grant goes back, and a load attempt that waits for the poll places
its setup read, granted at once; a READ whose upstream frame has ended gives its grant back (R20, R94, R123, R130,
R137, R139, R144, R149, R155, R176). Stated with nothing else waiting for the bus. Which of two FREE slots is taken is
the model's choice (log 16), as is that the pointer is loaded with the answer and not with its clock (log 37); that a
READ or a relay whose upstream side has ended before or during its poll gives its grant back at the poll's end is the
model's reading (log 10, log 11). -/
def Obligations.AcknowledgedPollEndsTheOperation : Prop :=
  ∀ (s : State) (p : Poll) (k : Nat), s.down.upFifo = [] → s.down.intReqs = [] → s.indexOf p.addr = some k →
    let states := s.down.states.set k .ready
    let freed := busFreed { s.down with states := states }
    (∀ i, polling s (.posted i) p → p.followsWrite = true → s.port.hold = .none →
      exec .pollAttemptAcknowledged s = .next { s with forward := s.forward.set i .free, down := freed })
    ∧ (∀ i j f d a, polling s (.posted i) p → p.followsWrite = true → s.port.hold = .a → s.port.frame = some f →
      f.cls = .posted → f.dead = false → f.dev = some d → f.start = some a → s.forward.freeSlot = none →
      (s.forward.set i .free).freeSlot = some j →
      exec .pollAttemptAcknowledged s = .next
        { s with
          forward := (s.forward.set i .free).set j (.collecting d a (emptyPage (s.setup.tables.pageSize d) a))
          port :=
            { s.port with
              pointers := s.port.pointers.set d a, hold := .none, holdTimer := none, idleTimer := some f.idleLimit
              answer := some true }
          down := freed })
    ∧ (polling s .homePoll p → s.setup.config = .unconfigured → s.setup.attempt = .none →
      s.down.states = [.ready] → k = 0 →
      exec .pollAttemptAcknowledged s = .next
        { s with
          setup := { s.setup with phase := .loading, readAttempts := 0 }
          down :=
            { freed with
              grant := some .setupRead, fairness := 0, detections := 0, speed := s.setup.tables.speed
              activity :=
                .read (homeAddr s.setup.straps) (BitVec.ofNat 16 (setupBase s.setup.straps)) 128 } })
    ∧ (polling s .relay p → s.down.ended = true → s.setup.attempt ≠ .awaitPoll →
      exec .pollAttemptAcknowledged s = .next { s with down := freed })
    ∧ (∀ st, polling s .relay p → s.down.ended = true → s.setup.config = .unconfigured → s.setup.attempt = .awaitPoll →
      s.down.states = [st] → k = 0 →
      exec .pollAttemptAcknowledged s = .next
        { s with
          setup := { s.setup with attempt := .granted, readAttempts := 0 }
          down :=
            { freed with
              grant := some .setupRead, fairness := 0, detections := 0, speed := s.setup.tables.speed
              activity :=
                .read (homeAddr s.setup.straps) (BitVec.ofNat 16 (setupBase s.setup.straps)) 128 } })
    ∧ (polling s .read p → s.down.ended = true →
      exec .pollAttemptAcknowledged s = .next { s with down := freed })

/-- The acknowledged poll after a write step of the engine ends the step: the next journal page or the verify read, the
first apply entry, the next entry or the retire field. The next step is requested; with a pause requested the engine
enters PAUSED at that boundary instead and remembers it. After a frame that was refused the same step is requested
again, until three attempts have been made: then the engine halts with WRITE_REFUSED at its step and device (that it
halts at this acknowledgement is the model's reading, log 9, as is that the refusal counts the attempt, log 24), which
during replay ends configuration entry and opens the gate. The arbiter then grants. The statement on retirement gives
the retire step (R50, R52, R55 to R57, R59, R61, R62, R64, R155, R171, R180, R182). -/
def Obligations.AcknowledgedPollEndsTheStep : Prop :=
  ∀ (s : State) (p : Poll) (k : Nat), polling s .engine p → p.followsWrite = true → s.indexOf p.addr = some k →
    let down := busFreed { s.down with states := s.down.states.set k .ready }
    let requested := { down with intReqs := s.down.intReqs ++ [.engine] }
    (∀ (g : Group) (gs : List Group), p.afterRefusal = false → s.queue.sealed = g :: gs →
      let next (g' : Group) (ph : Phase) (n : Nat) : State :=
        if s.engine.pauseRequested = true then
          { s with
            queue := { s.queue with sealed := g' :: gs }
            engine := { s.engine with state := .paused, attempts := 0, remembered := some (.step ph n) }
            down := down }
        else
          { s with
            queue := { s.queue with sealed := g' :: gs }
            engine := { s.engine with state := .phase ph, pointer := n, attempts := 0, remembered := none }
            down := requested }
      let pages := (g.placement.map Placement.count).getD 0
      let n := s.engine.pointer
      (s.engine.state = .phase .journal → n + 1 < pages →
        exec .pollAttemptAcknowledged s = .next (s.conclude (next g .journal (n + 1))))
      ∧ (s.engine.state = .phase .journal → pages ≤ n + 1 →
        exec .pollAttemptAcknowledged s = .next (s.conclude (next { g with state := .verifying } .verify 0)))
      ∧ (s.engine.state = .phase .commit →
        exec .pollAttemptAcknowledged s = .next (s.conclude (next { g with state := .applying } .apply 0)))
      ∧ (s.engine.state = .phase .apply → n + 1 < g.entries.length →
        exec .pollAttemptAcknowledged s = .next (s.conclude (next { g with progress := n + 1 } .apply (n + 1))))
      ∧ (s.engine.state = .phase .apply → g.entries.length ≤ n + 1 →
        exec .pollAttemptAcknowledged s = .next
          (s.conclude (next { g with progress := n + 1, state := .retiring } .retire 0))))
    ∧ (p.afterRefusal = true → s.engine.attempts < 3 →
      exec .pollAttemptAcknowledged s = .next (s.conclude { s with down := requested }))
    ∧ (∀ ph, p.afterRefusal = true → 3 ≤ s.engine.attempts → s.engine.state = .phase ph →
      exec .pollAttemptAcknowledged s = .next
        (s.conclude
          (entryOver .replaying
            { s with
              engine :=
                { s.engine with
                  state := .halted, remembered := some (.step ph s.engine.pointer), faultCode := .writeRefused
                  faultDevice := some s.stepDevice }
              down := down })))

/-- The acknowledged poll after the retire field is the retirement: the group leaves the queue, the completion count
rises by one modulo 256, DONE is set, the last retired sequence and tag are the group's, the head moves past the live
record and none is live, and a group that touched the setup area makes a reload due. The engine goes to IDLE, or enters
PAUSED if that is requested. With the last replay group retired configuration entry opens the gate, or, if a reload is
due, enters RELOADING with its setup read requested, the attempts counted from 0 (counted on where a repeat is due, which
is the model's choice, log 30) (R16, R38, R58, R64, R76, R109, R113, R180 to R182). Stated with no
other group sealed and nothing else waiting for the bus. -/
def Obligations.RetirementRemovesTheGroup : Prop :=
  ∀ (s : State) (p : Poll) (k : Nat) (g : Group) (pl : Placement) (q : Word) (tag : Byte), polling s .engine p →
    p.followsWrite = true → p.afterRefusal = false → s.indexOf p.addr = some k → s.queue.sealed = [g] →
    s.store.claims = [] → s.engine.state = .phase .retire → s.journal.live = some pl → g.seq = some q →
    g.tag = some tag → s.down.upFifo = [] → s.down.intReqs = [] →
    let retired : State :=
      { s with
        queue := { s.queue with sealed := [] }
        journal :=
          { s.journal with
            lastSeq := q, lastTag := tag, live := none
            head :=
              if pl.first - s.ring.firstPage + pl.count < s.ring.pageCount then pl.first + pl.count
              else s.ring.firstPage }
        window := { s.window with done := true, completion := s.window.completion + 1 }
        setup :=
          if g.touchesSetup = true then
            match s.setup.reload with
            | .none => { s.setup with reload := .waitRead }
            | .waitRead => s.setup
            | .reading => { s.setup with stale := true }
            | .waitSwap => { s.setup with reload := .waitRead, holding := none }
          else s.setup
        engine :=
          if s.engine.pauseRequested = true then
            { s.engine with state := .paused, attempts := 0, remembered := some .idle }
          else { s.engine with state := .idle, attempts := 0, remembered := none }
        down := busFreed { s.down with states := s.down.states.set k .ready } }
    (s.setup.phase ≠ .replaying → exec .pollAttemptAcknowledged s = .next retired)
    ∧ (s.setup.phase = .replaying → s.engine.pauseRequested = false → retired.setup.reload = .none →
      exec .pollAttemptAcknowledged s = .next (entryOver .replaying retired))
    ∧ (s.setup.phase = .replaying → s.engine.pauseRequested = false → retired.setup.reload ≠ .none →
      exec .pollAttemptAcknowledged s = .next
        (s.conclude
          { retired with
            setup :=
              { retired.setup with
                phase := .reloading, reload := .reading, stale := false, repeatDue := false
                readAttempts := if s.setup.repeatDue = true then s.setup.readAttempts else 0 }
            down := { retired.down with intReqs := [.setupRead] } }))

/-- A refused attempt of a poll younger than its limit is followed by the 100 us interval, and the interval by the
next attempt; from the limit on it is the poll's expiry (R155). That the command brings the age is the model's choice
(log 4). -/
def Obligations.RefusedAttemptWaitsOrExpires : Prop :=
  ∀ (s : State) (r : Requester) (p : Poll) (age : Nat),
    (polling s r p → age < p.limit * 1000 →
      exec (.pollAttemptNak age) s = .next { s with down := { s.down with poll := some { p with attempt := false } } })
    ∧ (polling s r p → p.limit * 1000 ≤ age → exec (.pollAttemptNak age) s = exec .pollExpired s)
    ∧ (s.nothingDue → s.down.grant = some r → s.down.poll = some p → p.attempt = false → s.down.clearing = false →
      exec .pollIntervalElapsed s = .next { s with down := { s.down with poll := some { p with attempt := true } } })

/-- The part at the end of the fallback of configuration entry, with the downstream port given: UNCONFIGURED with the
defaults, the reject reason and SETUP set, no OPEN group, no scan, and the gate OPEN (R179). -/
def fellBack (s : State) (r : Reject) (d : Downstream) : State :=
  { s with
    setup :=
      { s.setup with
        reject := r, config := .unconfigured, tables := Tables.defaults, attempt := .none, kept := false
        loadBuffer := none, phase := .none }
    queue := { s.queue with openGroup := none }
    window := { s.window with setupNotice := true }
    port := { s.port with gate := .opn, pointers := { s.port.pointers with p1 := 0, p2 := 0, p3 := 0 } }
    journal := { s.journal with scan := none }
    down := d }

/-- A poll that expires leaves its device FAULTED, and the operation fails: the engine halts with POLL_TIMEOUT at its
step, which during replay ends configuration entry and opens the gate; a posted write sets FWD_FAIL with its device and
start address and frees its slot; a READ is refused at its device byte and keeps its grant; and at the home poll
configuration entry ends UNCONFIGURED with NO_ANSWER and SETUP set, and the gate opens (R61, R62, R87, R110, R140, R153,
R155, R171, R176, R179, R180, R182). Stated with nothing else waiting. -/
def Obligations.ExpiredPollFailsTheOperation : Prop :=
  ∀ (s : State) (p : Poll) (k : Nat), s.indexOf p.addr = some k → s.down.upFifo = [] → s.down.intReqs = [] →
    let states := s.down.states.set k .faulted
    let freed := busFreed { s.down with states := states }
    (∀ ph, polling s .engine p → s.engine.state = .phase ph →
      exec .pollExpired s = .next
        (entryOver .replaying
          { s with
            engine :=
              { s.engine with
                state := .halted, remembered := some (.step ph s.engine.pointer), faultCode := .pollTimeout
                faultDevice := some s.stepDevice }
            down := freed }))
    ∧ (∀ i d rs, polling s (.posted i) p → s.forward.get i = .performing d rs → s.port.hold = .none →
      exec .pollExpired s = .next
        { s with
          forward := s.forward.set i .free
          window :=
            { s.window with
              fwdFail := true, ffDevice := some d, ffAddr := (rs.head?.map Run.start).getD 0 }
          down := freed })
    ∧ (∀ f, polling s .read p → s.read.phase = .opening → s.down.ended = false → s.port.frame = some f →
      exec .pollExpired s = .next
        { s with
          port := heldRefused s f
          read := { s.read with phase := .dead }
          down := { s.down with states := states, poll := none, activity := .none } })
    ∧ (polling s .homePoll p → exec .pollExpired s = .next (fellBack s .noAnswer { freed with states := states.take 1 }))

/-- A write frame is on the segment, and no poll or bus clear is under way. -/
def writing (s : State) (r : Requester) (a : DevAddr) : Prop :=
  s.nothingDue ∧ s.down.grant = some r ∧ s.down.clearing = false ∧ s.down.poll = none
    ∧ ∃ w bs, s.down.activity = .write a w bs

/-- At a write frame's stop the device becomes BUSY and its poll begins, the first attempt 100 us later. A refused
frame is stopped and polled in the same way; the engine has then made one attempt more (that the count rises at the
refusal is the model's reading, log 24), and a posted write sets FWD_FAIL with its device and start address in the same
event (R59, R110, R140, R148, R153, R155). -/
def Obligations.WriteFrameEndsInItsPoll : Prop :=
  ∀ (s : State) (r : Requester) (a : DevAddr) (k : Nat), writing s r a → s.indexOf a = some k →
    let polled (refused : Bool) : Downstream :=
      { s.down with
        states := s.down.states.set k .busy
        poll := some
          { addr := a, limit := s.setup.tables.pollLimit, followsWrite := true, afterRefusal := refused
            attempt := false }
        activity := .none }
    exec .writeFrameSent s = .next { s with down := polled false }
    ∧ (r = .engine →
      exec .frameRefused s = .next
        { s with engine := { s.engine with attempts := s.engine.attempts + 1 }, down := polled true })
    ∧ (∀ i d rs, r = .posted i → s.forward.get i = .performing d rs →
      exec .frameRefused s = .next
        { s with
          window :=
            { s.window with fwdFail := true, ffDevice := some d, ffAddr := (rs.head?.map Run.start).getD 0 }
          down := polled true })

/-! ## The part's own reads -/

/-- A random read of this many bytes is on the segment for this requester. -/
def reading (s : State) (r : Requester) (n : Nat) : Prop :=
  s.nothingDue ∧ s.down.grant = some r ∧ s.down.clearing = false ∧ s.down.poll = none
    ∧ ∃ a w, s.down.activity = .read a w n

/-- The bus returned, and one internal request more at the tail (R149, R150). -/
def requestedAgain (s : State) (r : Requester) : Downstream :=
  { busFreed s.down with intReqs := s.down.intReqs ++ [r] }

/-- A refused read is stopped with no poll, and one attempt more has been made. After the first and the second the
same read is requested again at the tail of the internal requests, and the arbiter grants; but where an engine step
waits, a reload goes back from READING to WAIT_READ with its repeat due, and the arbiter grants, so that no step is
granted while the reload is READING (R16, R51, R170). After the third the verify step halts the engine with
READ_REFUSED, a reload is rejected with NO_ANSWER, a load in LOADING falls back with NO_ANSWER, and a scan read falls
back with BAD_RING; a halt during replay and a reload rejected in RELOADING end configuration entry and open the gate
(R8, R17, R60, R62, R83, R150, R171, R179 to R182). That the count rises at the refusal is the model's reading (log 24),
and that the reload waits in WAIT_READ for its repeat is the model's choice: R8 does not say when the repeat is placed
where a step waits (log 30). -/
def Obligations.RefusedReadsAreRepeated : Prop :=
  ∀ (s : State) (n : Nat),
    (reading s .engine n →
      let engine := { s.engine with attempts := s.engine.attempts + 1 }
      (s.engine.attempts + 1 < 3 →
        exec .readFrameRefused s = .next (s.conclude { s with engine := engine, down := requestedAgain s .engine }))
      ∧ (3 ≤ s.engine.attempts + 1 → s.engine.state = .phase .verify →
        exec .readFrameRefused s = .next
          (s.conclude
            (entryOver .replaying
              { s with
                engine :=
                  { engine with
                    state := .halted, remembered := some (.step .verify s.engine.pointer), faultCode := .readRefused
                    faultDevice := some s.ring.dev }
                down := busFreed s.down }))))
    ∧ (reading s .setupRead n →
      let setup := { s.setup with readAttempts := s.setup.readAttempts + 1 }
      (s.setup.readAttempts + 1 < 3 → s.setup.reload ≠ .reading ∨ .engine ∉ s.down.intReqs →
        exec .readFrameRefused s = .next
          (s.conclude { s with setup := setup, down := requestedAgain s .setupRead }))
      ∧ (s.setup.readAttempts + 1 < 3 → s.setup.reload = .reading → .engine ∈ s.down.intReqs →
        exec .readFrameRefused s = .next
          (s.conclude
            { s with setup := { setup with reload := .waitRead, repeatDue := true }, down := busFreed s.down }))
      ∧ (3 ≤ s.setup.readAttempts + 1 → s.setup.config = .configured → s.setup.stale = false →
        exec .readFrameRefused s = .next
          (s.conclude
            (entryOver .reloading
              { s with
                setup := { setup with reject := .noAnswer, reload := .none, holding := none }
                window := { s.window with setupNotice := true }
                down := busFreed s.down })))
      ∧ (3 ≤ s.setup.readAttempts + 1 → s.setup.config = .unconfigured → s.setup.phase = .loading →
        exec .readFrameRefused s = .next
          (s.conclude
            (fellBack { s with setup := setup } .noAnswer
              { busFreed s.down with states := s.down.states.take 1 }))))
    ∧ (∀ sc, reading s .scanRead n → s.journal.scan = some sc →
      (sc.attempts + 1 < 3 →
        exec .readFrameRefused s = .next
          (s.conclude
            { s with
              journal := { s.journal with scan := some { sc with attempts := sc.attempts + 1 } }
              down := requestedAgain s .scanRead }))
      ∧ (3 ≤ sc.attempts + 1 →
        exec .readFrameRefused s = .next
          (s.conclude (fellBack s .badRing { busFreed s.down with states := s.down.states.take 1 }))))

/-- The verify read has ended. Bytes equal to the record, whose CRC then holds, lead to COMMIT; others lead to a new
journal pass from the record's first page at the same placement while fewer than three have been begun, and else to
HALTED with VERIFY_FAILED and the ring device. With a pause requested the engine enters PAUSED instead and remembers
what comes next. A halt during replay would end configuration entry. The arbiter then grants (R52 to R54, R62, R64,
R171, R180). When a paused pass is counted is the model's reading (log 23). -/
def Obligations.VerifyReadDecides : Prop :=
  ∀ (s : State) (bs : List Byte) (g : Group) (gs : List Group) (p : Placement), reading s .engine bs.length →
    21 ≤ bs.length → bs.length ≤ 1232 → s.queue.sealed = g :: gs → g.placement = some p →
    s.engine.state = .phase .verify →
    let image := recordImage g p.count
    let again := { g with state := .journaling, passes := g.passes + 1 }
    let paused (n : NextStep) : Engine := { s.engine with state := .paused, attempts := 0, remembered := some n }
    (bs = image → s.engine.pauseRequested = false →
      exec (.verifyReadDone bs) s = .next
        (s.conclude
          { s with
            queue := { s.queue with sealed := { g with state := .committing } :: gs }
            engine := { s.engine with state := .phase .commit, pointer := 0, attempts := 0, remembered := none }
            down := requestedAgain s .engine }))
    ∧ (bs = image → s.engine.pauseRequested = true →
      exec (.verifyReadDone bs) s = .next
        (s.conclude
          { s with
            queue := { s.queue with sealed := { g with state := .committing } :: gs }
            engine := paused (.step .commit 0), down := busFreed s.down }))
    ∧ (bs ≠ image → g.passes < 3 → s.engine.pauseRequested = false →
      exec (.verifyReadDone bs) s = .next
        (s.conclude
          { s with
            queue := { s.queue with sealed := again :: gs }
            journal := { s.journal with live := some p }
            engine := { s.engine with state := .phase .journal, pointer := 0, attempts := 0, remembered := none }
            down := requestedAgain s .engine }))
    ∧ (bs ≠ image → g.passes < 3 → s.engine.pauseRequested = true →
      exec (.verifyReadDone bs) s = .next
        (s.conclude
          { s with
            queue := { s.queue with sealed := { g with state := .journaling } :: gs }
            engine := paused .freshPass, down := busFreed s.down }))
    ∧ (bs ≠ image → 3 ≤ g.passes →
      exec (.verifyReadDone bs) s = .next
        (s.conclude
          (entryOver .replaying
            { s with
              engine :=
                { s.engine with
                  state := .halted, remembered := some (.step .verify s.engine.pointer), faultCode := .verifyFailed
                  faultDevice := some s.ring.dev }
              down := busFreed s.down })))

/-! ## Loads, reloads and the ring scan -/

/-- The part at the acceptance of a load, the frame in progress already caught: CONFIGURED with the record's tables,
an empty OPEN group, the home device's state kept and every other device BUSY, the home pointer reduced modulo its
capacity and the others 0, the gate REFUSING, a pause request dropped, and the scan begun with the ring's first page
(R2, R44, R49, R79, R119, R124, R153, R177, R183). -/
def loadAccepted (s : State) (bs : List Byte) : State :=
  let t := tablesOf bs
  { s with
    setup :=
      { s.setup with
        config := .configured, reject := .none, tables := t, loadBuffer := some bs, attempt := .none, kept := false
        phase := .scanning }
    queue := { s.queue with openGroup := some Group.empty }
    engine :=
      if s.engine.state = .paused then { s.engine with state := .idle, pauseRequested := false, remembered := none }
      else { s.engine with pauseRequested := false }
    journal := { s.journal with scan := some { stage := .headers 0, attempts := 0, cands := [] } }
    port :=
      { s.port with
        gate := .refusing
        pointers :=
          { p0 := BitVec.ofNat 16 (s.port.pointers.p0.toNat % t.capacity 0), p1 := 0, p2 := 0, p3 := 0 } }
    down :=
      { requestedAgain s .scanRead with
        states := s.down.states.take 1 ++ List.replicate (t.devices.length - 1) .busy } }

/-- The setup read has ended with 128 bytes. While UNCONFIGURED an accepted record brings the tables into force and
begins the scan; a frame in progress is dead, a byte it holds at A is answered with a NAK, and its request is withdrawn
(between frames there is none to catch); a rejected one falls back in LOADING, and elsewhere is recorded with its reason
and SETUP, a kept request then placing one further read. While CONFIGURED an accepted copy waits for the swap and a
rejected one ends the reload with the tables unchanged; bytes a retirement has made stale are not judged, and the setup
unit waits to read again (R8, R9, R15 to R17, R19 to R21, R86, R119, R150, R177, R179, R183). That the load buffer is
kept at an acceptance is the model's choice (log 25). -/
def Obligations.SetupReadEndsTheLoad : Prop :=
  ∀ (s : State) (bs : List Byte), reading s .setupRead 128 → bs.length = 128 →
    let verdict := validate s.setup.straps bs
    let noted := { s.window with setupNotice := true }
    (s.setup.config = .unconfigured → verdict = .none → s.setup.phase = .loading →
      exec (.setupReadDone bs) s = .next (s.conclude (loadAccepted s bs)))
    ∧ (s.setup.config = .unconfigured → verdict = .none → s.setup.phase ≠ .loading → s.port.frame = none →
      exec (.setupReadDone bs) s = .next (s.conclude (loadAccepted s bs)))
    ∧ (∀ f, s.setup.config = .unconfigured → verdict = .none → s.setup.phase ≠ .loading → s.port.frame = some f →
      let u := loadAccepted s bs
      let caughtPort : Port :=
        if s.port.hold = .a then
          { u.port with
            frame := some { f with dead := true }
            hold := .none, holdTimer := none, idleTimer := some f.idleLimit, answer := some false }
        else { u.port with frame := some { f with dead := true } }
      exec (.setupReadDone bs) s = .next
        (s.conclude
          { u with
            port := caughtPort
            relay := none
            read := { s.read with phase := if s.read.phase = .requested then .dead else s.read.phase }
            down := { u.down with upFifo := s.down.upFifo.filter fun q => decide (q ≠ .read ∧ q ≠ .relay) } }))
    ∧ (s.setup.config = .unconfigured → verdict ≠ .none → s.setup.phase = .loading →
      exec (.setupReadDone bs) s = .next
        (s.conclude (fellBack s verdict { busFreed s.down with states := s.down.states.take 1 })))
    ∧ (s.setup.config = .unconfigured → verdict ≠ .none → s.setup.phase ≠ .loading → s.setup.kept = false →
      exec (.setupReadDone bs) s = .next
        (s.conclude
          { s with
            setup := { s.setup with reject := verdict, attempt := .none, loadBuffer := none }
            window := noted, down := busFreed s.down }))
    ∧ (s.setup.config = .unconfigured → verdict ≠ .none → s.setup.phase ≠ .loading → s.setup.kept = true →
      exec (.setupReadDone bs) s = .next
        (s.conclude
          { s with
            setup :=
              { s.setup with
                reject := verdict, attempt := .requested, kept := false, loadBuffer := none, readAttempts := 0 }
            window := noted, down := requestedAgain s .setupRead }))
    ∧ (s.setup.config = .configured → s.setup.stale = false → verdict = .none →
      exec (.setupReadDone bs) s = .next
        (s.conclude
          { s with
            setup := { s.setup with reload := .waitSwap, holding := some bs }, down := busFreed s.down }))
    ∧ (s.setup.config = .configured → s.setup.stale = false → verdict ≠ .none →
      exec (.setupReadDone bs) s = .next
        (s.conclude
          { s with
            setup :=
              { s.setup with
                reject := verdict, reload := .none, holding := none
                phase := if s.setup.phase = .reloading then .none else s.setup.phase }
            window := noted
            port := { s.port with gate := if s.setup.phase = .reloading then .opn else s.port.gate }
            down := busFreed s.down }))
    ∧ (s.setup.config = .configured → s.setup.stale = true →
      exec (.setupReadDone bs) s = .next
        (s.conclude
          { s with
            setup := { s.setup with reload := .waitRead, stale := false, holding := none }
            down := busFreed s.down }))

/-- Where the head, the next sequence number and the last retired record stand after a scan whose candidates have been
judged (R70, R81). The rank is the one that all of them give, failed ones too (the model's choice, log 39). -/
def scannedJournal (s : State) (cs : List Candidate) : Journal :=
  let newest := newestPassing (newestFirst cs)
  let retired := newestPassing ((newestFirst cs).filter Candidate.retired)
  { s.journal with
    head :=
      match newest with
      | some c =>
        if c.offset + headerPageCount c.header < s.ring.pageCount then
          s.ring.firstPage + c.offset + headerPageCount c.header
        else s.ring.firstPage
      | none => s.ring.firstPage
    nextSeq :=
      match newest with
      | some c => headerSeq c.header + 1
      | none => 0x0001
    lastSeq :=
      match retired with
      | some c => headerSeq c.header
      | none => 0x0000
    lastTag :=
      match retired with
      | some c => headerTag c.header
      | none => 0x00
    live := none, scan := none }

/-- The scan goes on with this read (R79, R80). -/
def scanningOn (s : State) (stage : ScanStage) (cs : List Candidate) : State :=
  { s with
    journal := { s.journal with scan := some { stage := stage, attempts := 0, cands := cs } }
    down := requestedAgain s .scanRead }

/-- One header of the ring has been read: a page whose header fits the ring is a candidate. The next page's header is
read; after the last the candidates are read whole, and with none to read and none to replay configuration entry ends
with the journal's values of R81 and the gate OPEN. One candidate has been read whole: it is judged, and while another
read is needed it is requested. At the scan's end the journal takes the values of R81; with no record to replay the
gate opens, a record that cannot be applied under the tables makes the scan fail with BAD_RING, and a single applicable
record is loaded as a group in APPLYING, its record live, with the engine at its first entry and configuration entry in
REPLAYING (R39, R51, R79 to R83, R178, R179, R182). The order of the last group of reads is the model's choice (log
13), as is that a candidate that has failed keeps its place in the ranking (log 39); that a failed scan keeps the
journal's values is its reading (log 12). -/
def Obligations.ScanReadsAreJudged : Prop :=
  (∀ (s : State) (bs : List Byte) (o n : Nat) (cs : List Candidate) (k : Nat), reading s .scanRead n →
     bs.length = 16 → s.journal.scan = some { stage := .headers o, attempts := k, cands := cs } →
     let fits :=
       decide (byteAt bs 0 = 0xA6 ∧ byteAt bs 1 = 0x19 ∧ 1 ≤ (wordAt bs 8).toNat
         ∧ o + (wordAt bs 8).toNat ≤ s.ring.pageCount)
     let found := if fits then cs ++ [{ offset := o, header := bs, verdict := .unread }] else cs
     (o + 1 < s.ring.pageCount →
       exec (.scanHeaderReadDone bs) s = .next (s.conclude (scanningOn s (.headers (o + 1)) found)))
     ∧ (∀ c, s.ring.pageCount ≤ o + 1 → nextRecordRead found = some c →
       exec (.scanHeaderReadDone bs) s = .next (s.conclude (scanningOn s (.record c.offset) found)))
     ∧ (s.ring.pageCount ≤ o + 1 → nextRecordRead found = none → replayCandidates found = [] →
       exec (.scanHeaderReadDone bs) s = .next
         (s.conclude
           { s with
             journal := scannedJournal s found
             setup := { s.setup with phase := .none }
             port := { s.port with gate := .opn }
             down := busFreed s.down })))
  ∧ (∀ (s : State) (bs : List Byte) (o : Nat) (cs : List Candidate) (k : Nat), reading s .scanRead bs.length →
      16 ≤ bs.length → s.journal.scan = some { stage := .record o, attempts := k, cands := cs } →
      let judged := cs.map fun c =>
        if c.offset = o then
          { c with
            verdict :=
              match checkRecord s.ringPageSize c.header bs with
              | some items => .passed items
              | none => .failed }
        else c
      (∀ c, nextRecordRead judged = some c →
        exec (.scanRecordReadDone bs) s = .next (s.conclude (scanningOn s (.record c.offset) judged)))
      ∧ (nextRecordRead judged = none → replayCandidates judged = [] →
        exec (.scanRecordReadDone bs) s = .next
          (s.conclude
            { s with
              journal := scannedJournal s judged
              setup := { s.setup with phase := .none }
              port := { s.port with gate := .opn }
              down := busFreed s.down }))
      ∧ (∀ c items e, nextRecordRead judged = none → c ∈ replayCandidates judged → c.verdict = .passed items →
        e ∈ items → itemApplicable s.setup.tables e = false →
        exec (.scanRecordReadDone bs) s = .next
          (s.conclude (fellBack s .badRing { busFreed s.down with states := s.down.states.take 1 })))
      ∧ (∀ c items, nextRecordRead judged = none → replayCandidates judged = [c] → c.verdict = .passed items →
        items.all (itemApplicable s.setup.tables) = true → (items.map fun e => e.data.length).sum ≤ 1024 →
        items.length ≤ 48 → s.queue.openGroup = some Group.empty → s.queue.sealed = [] → s.store.image = none →
        s.setup.config = .configured → s.engine.state = .idle → s.engine.pauseRequested = false →
        let placement : Placement := { first := s.ring.firstPage + c.offset, count := headerPageCount c.header }
        exec (.scanRecordReadDone bs) s = .next
          (s.conclude
            { s with
              store := { s.store with claims := [] }
              queue :=
                { s.queue with
                  sealed :=
                    [{ state := .applying, tag := some (headerTag c.header), seq := some (headerSeq c.header)
                       entries := items, placement := some placement, progress := 0, passes := 0
                       touchesSetup := items.any (entryTouchesSetup s.setup.straps) }] }
              journal := { scannedJournal s judged with live := some placement }
              setup := { s.setup with phase := .replaying }
              engine := { s.engine with state := .phase .apply, pointer := 0, attempts := 0, remembered := none }
              down := requestedAgain s .engine })))

/-- In WAIT_READ, with no group sealed and the engine IDLE, the setup unit requests the read of the setup area. In
WAIT_SWAP, with the OPEN group empty, no group sealed, the port between frames with no READ or relay being wound up (the
model's choice for its poll and its bus clear, log 34) and the forward queue free, the holding copy replaces the tables:
devices kept under their addresses keep their states and their pointers, reduced modulo the new capacity, new ones are
READY with pointer 0, and the head moves to the ring's first page only if the ring's place changed; in RELOADING the
gate then opens (R2, R8, R16, R18, R84, R124, R153, R181). The attempts are counted from 0, or, where the repeat of a
refused read is due, counted on, which is the model's choice (log 30). -/
def Obligations.ReloadIsReadAndSwapped : Prop :=
  ∀ s : State,
    (s.setup.reload = .waitRead → s.queue.sealed = [] → s.engine.state = .idle →
      exec .reloadReadRequest s = .next
        (s.conclude
          { s with
            setup :=
              { s.setup with
                reload := .reading, stale := false, repeatDue := false
                readAttempts := if s.setup.repeatDue = true then s.setup.readAttempts else 0 }
            down := { s.down with intReqs := s.down.intReqs ++ [.setupRead] } }))
    ∧ (∀ bs, s.setup.reload = .waitSwap → s.setup.holding = some bs → s.openEntries = [] → s.queue.sealed = [] →
      s.port.frame = none → s.down.ended = false → s.forward = { one := .free, two := .free } →
      let old := s.setup.tables
      let new := tablesOf bs
      let place (d : Device) : Option Nat := old.devices.findIdx? fun o => decide (o.addr = d.addr)
      let pointer (i : Nat) : Word :=
        match new.devices[i]? with
        | none => 0
        | some d =>
          match place d with
          | some k => BitVec.ofNat 16 ((s.port.pointers.get k).toNat % d.capacity)
          | none => 0
      exec .setupSwap s = .next
        { s with
          setup :=
            { s.setup with
              config := .configured, reject := .none, tables := new, reload := .none, holding := none, stale := false
              phase := if s.setup.phase = .reloading then .none else s.setup.phase }
          journal :=
            { s.journal with
              head :=
                if old.ringPlace = new.ringPlace then s.journal.head
                else ((new.ring.map PageRange.firstPage).getD s.journal.head) }
          port :=
            { s.port with
              gate := if s.setup.phase = .reloading then .opn else s.port.gate
              pointers := { p0 := pointer 0, p1 := pointer 1, p2 := pointer 2, p3 := pointer 3 } }
          down :=
            { s.down with
              states := new.devices.map fun d =>
                match place d with
                | some k => s.down.states.getD k .ready
                | none => .ready } })

/-! ## Proxy reads and relays -/

/-- The controller's side of a granted READ or RELAY is served: no poll and no bus clear is under way. -/
def served (s : State) (r : Requester) (f : Frame) : Prop :=
  s.nothingDue ∧ s.down.grant = some r ∧ s.down.ended = false ∧ s.down.clearing = false ∧ s.down.poll = none
    ∧ s.port.frame = some f

/-- This is on the downstream segment for this requester, with no poll and no bus clear under way. -/
def onSegment (s : State) (r : Requester) (a : Activity) : Prop :=
  s.nothingDue ∧ s.down.grant = some r ∧ s.down.clearing = false ∧ s.down.poll = none ∧ s.down.activity = a

/-- The random-read header of a proxy read has ended. With every byte acknowledged the controller's device byte is
acknowledged and the stream begins, the clock to be held at B for the first byte; otherwise the byte is refused, the
frame dead, and the downstream frame closed with a stop. A stream taken up again after a bus clear goes on from the
byte awaited; where its header is refused, of which R96 says nothing, the downstream frame is closed with a stop and
the hold at B left to run to its expiry (the model's reading, log 14). In a frame that an expiry has killed or filled,
or that has ended, the answer is not given upstream: an acknowledged header is followed by one byte of the memory, and
a refused or cut one is closed with a stop (R88, R94 to R97, R127). How the row ends an abandoned header, that the hold
at B is decided with the ack and taken at the end of its clock pulse, and the closing conditions are the model's way to
show them (log 31, log 32, log 33). -/
def Obligations.ReadHeaderOpensTheStream : Prop :=
  ∀ (s : State) (a : DevAddr) (w : Word),
    (∀ f, served s .read f → s.read.phase = .opening → s.port.hold = .a → s.down.activity = .header a w →
      exec (.readHeaderDone true) s = .next
        { s with
          port :=
            { s.port with
              hold := .b, holdTimer := none, idleTimer := some f.idleLimit, answer := some true }
          read := { s.read with phase := .streaming }
          down := { s.down with activity := .byte } }
      ∧ exec (.readHeaderDone false) s = .next
        { s with
          port := heldRefused s f
          read := { s.read with phase := .dead }
          down := { s.down with activity := .closing .stop false } })
    ∧ (∀ f, served s .read f → s.read.phase = .streaming → s.down.activity = .header a w →
      exec (.readHeaderDone true) s = .next { s with down := { s.down with activity := .byte } }
      ∧ exec (.readHeaderDone false) s = .next { s with down := { s.down with activity := .closing .stop false } })
    ∧ (onSegment s .read (.header a w) → s.read.phase = .dead ∨ s.read.phase = .filling ∨ s.down.ended = true →
      exec (.readHeaderDone true) s = .next { s with down := { s.down with activity := .byte } }
      ∧ exec (.readHeaderDone false) s = .next { s with down := { s.down with activity := .closing .stop false } })

/-- The byte sent upstream in a stream, at the shadow pointer's address: in the control window of the home device the
status snapshot's byte, 00h from offset 32 on, the snapshot being taken at the frame's first such byte; else, while
CONFIGURED, the newest staged byte; else the memory's. The clock is released and the memory's byte is held before its
ack slot. A byte that comes after an expiry, or after the upstream frame has ended, is discarded and the downstream
frame closed with a NAK and a stop (R85, R89, R91, R92, R94, R95, R97; that a byte from offset 32 on takes the snapshot
too follows R85 and R92 against R114's words, the model's choice, log 38; the closing conditions are a state of the
model's, log 33). -/
def Obligations.ByteSentInARead : Prop :=
  ∀ (s : State) (f : Frame) (b : Byte),
    let d := s.read.dev
    let a := (s.port.pointers.get d).toNat % s.setup.tables.capacity d
    let window := windowBase s.setup.straps
    let sent (v : Byte) : State :=
      { s with
        port := { s.port with hold := .none, holdTimer := none, idleTimer := some f.idleLimit, sent := some v }
        down := { s.down with activity := .held } }
    (served s .read f → s.read.phase = .streaming → s.port.hold = .b → s.down.activity = .byte →
      (d = 0 → window ≤ a → a < window + 32 → s.read.snapshot = none →
        exec (.memoryByteHeld b) s = .next
          { sent (s.statusRecord.getD (a - window) 0) with
            read := { s.read with snapshot := some s.statusRecord } })
      ∧ (∀ snap, d = 0 → window ≤ a → a < window + 32 → s.read.snapshot = some snap →
        exec (.memoryByteHeld b) s = .next (sent (snap.getD (a - window) 0)))
      ∧ (∀ snap, d = 0 → window + 32 ≤ a → a < window + 128 → s.read.snapshot = some snap → snap.length = 32 →
        exec (.memoryByteHeld b) s = .next (sent 0x00))
      ∧ (d = 0 → window + 32 ≤ a → a < window + 128 → s.read.snapshot = none →
        exec (.memoryByteHeld b) s = .next
          { sent 0x00 with read := { s.read with snapshot := some s.statusRecord } })
      ∧ (∀ v, d ≠ 0 ∨ a < window ∨ window + 128 ≤ a → s.setup.config = .configured → s.stagedByte d a = some v →
        exec (.memoryByteHeld b) s = .next (sent v))
      ∧ (d ≠ 0 ∨ a < window ∨ window + 128 ≤ a → s.setup.config = .unconfigured ∨ s.stagedByte d a = none →
        exec (.memoryByteHeld b) s = .next (sent b)))
    ∧ (onSegment s .read .byte → s.read.phase = .filling ∨ s.read.phase = .dead ∨ s.down.ended = true →
      exec (.memoryByteHeld b) s = .next { s with down := { s.down with activity := .closing .nakStop false } })

/-- A relay gives the controller the memory's own answers and bytes. An acknowledged device byte opens the relay in its
direction; a refused one ends it, the frame dead and the downstream frame closed with a stop. Later bytes are answered
as the memory answers them; a home relay's pointer advances, and its first byte is noted. A byte of the memory is sent
unchanged and awaits the controller's answer. In a relay being wound up the answer or the byte in progress is
discarded, whatever the upstream segment does meanwhile, and the frame is closed as the winding up holds (R123, R127,
R129, R142, R143, R145; that an acknowledged byte is counted and the home pointer moved at the release of the held
byte, whether or not the acknowledge clock is then cut, is the model's choice, log 37; that the hold at B is decided
with the ack and taken at the end of its clock pulse, and the closing conditions, are the model's way to show them, log
32, log 33). -/
def Obligations.RelayPassesAnswersAndBytes : Prop :=
  ∀ (s : State) (f : Frame) (b : Byte) (ack : Bool),
    let released := { s.port with hold := .none, holdTimer := none, idleTimer := some f.idleLimit }
    (∀ r, served s .relay f → s.port.hold = .a → s.relay = some r →
      (r.stage = .deviceSent → r.direction = .write →
        exec (.relayAnswer true) s = .next
          { s with relay := some { r with stage := .opn }, port := { released with answer := some true } })
      ∧ (r.stage = .deviceSent → r.direction = .read →
        exec (.relayAnswer true) s = .next
          { s with
            relay := some { r with stage := .readByte }
            port :=
              { s.port with
                hold := .b, holdTimer := none, idleTimer := some f.idleLimit, answer := some true } })
      ∧ (r.stage = .deviceSent →
        exec (.relayAnswer false) s = .next
          { s with
            relay := none
            port := heldRefused s f
            down := { s.down with ended := true, activity := .closing .stop false } })
      ∧ (r.stage = .byteSent → r.home = none →
        exec (.relayAnswer true) s = .next
          { s with
            relay := some { r with stage := .opn }
            port := { released with answer := some true, frame := some { f with acked := f.acked + 1 } } })
      ∧ (∀ h, r.stage = .byteSent → r.home = some h →
        exec (.relayAnswer true) s = .next
          { s with
            relay := some { r with stage := .opn, home := some { h with byteRelayed := true } }
            port :=
              { released with
                answer := some true, frame := some { f with acked := f.acked + 1 }
                pointers := s.port.pointers.set 0 (pointerAfterWrite s 0) } })
      ∧ (r.stage = .byteSent →
        exec (.relayAnswer false) s = .next
          { s with
            relay := some { r with stage := .opn, naked := true }
            port := { released with answer := some false, frame := some { f with refusedData := true } } }))
    ∧ (∀ how home, onSegment s .relay (.windUp .write how home) → s.down.ended = true →
      exec (.relayAnswer ack) s = .next { s with down := { s.down with activity := .closing how home } })
    ∧ (∀ r, served s .relay f → s.port.hold = .b → s.relay = some r → r.stage = .readByte →
      exec (.relayReadByte b) s = .next
        { s with relay := some { r with stage := .readHeld }, port := { released with sent := some b } })
    ∧ (∀ how home, onSegment s .relay (.windUp .read how home) → s.down.ended = true →
      exec (.relayReadByte b) s = .next { s with down := { s.down with activity := .closing how home } })

/-! ## The arbiter and the downstream bus -/

/-- The arbiter's choice: the head of the only queue that holds a request; with both, the head of the upstream FIFO,
counted by the fairness counter, until the counter stands at 8, when the head of the internal requests goes first. A
grant to an internal request sets the counter to 0 (R151). Where the request came with the boundary itself, R152
leaves open whether the grant is counted (log 7), and no value is stated for the counter. -/
def Obligations.ArbiterChoice : Prop :=
  ∀ (s : State) (u i : Requester) (us is : List Requester) (raced : Bool),
    (s.down.upFifo = [] → s.down.intReqs = [] → s.choose raced = none)
    ∧ (s.down.upFifo = u :: us → s.down.intReqs = [] →
      s.choose raced = some (u, { s with down := { s.down with upFifo := us } }))
    ∧ (s.down.upFifo = [] → s.down.intReqs = i :: is →
      s.choose raced = some (i, { s with down := { s.down with intReqs := is, fairness := 0 } }))
    ∧ (s.down.upFifo = u :: us → s.down.intReqs = i :: is → 8 ≤ s.down.fairness →
      s.choose raced = some (i, { s with down := { s.down with intReqs := is, fairness := 0 } }))
    ∧ (s.down.upFifo = u :: us → s.down.intReqs = i :: is → s.down.fairness < 8 →
      s.choose false = some (u, { s with down := { s.down with upFifo := us, fairness := s.down.fairness + 1 } })
      ∧ ∃ n k, (n = s.down.fairness ∨ n = s.down.fairness + 1) ∧
          s.choose true = some (u, { s with down := { s.down with upFifo := us, fairness := n }, freeIndex := k }))

/-- A grant whose device is FAULTED sends nothing, and the operation fails: the engine halts with DEVICE_FAULTED, a
posted write sets FWD_FAIL and frees its slot, a reload ends with NO_ANSWER and a scan falls back with BAD_RING; a halt
during replay and a reload that ends in RELOADING end configuration entry and open the gate (R8, R17, R61, R62, R83,
R110, R140, R154, R171, R180 to R182). -/
def Obligations.FaultedDeviceFailsAtTheGrant : Prop :=
  ∀ s : State,
    (∀ ph, s.devState s.stepDevice = .faulted → s.engine.state = .phase ph →
      s.openGrant .engine =
        entryOver .replaying
          { s with
            engine :=
              { s.engine with
                state := .halted, remembered := some (.step ph s.engine.pointer), faultCode := .deviceFaulted
                faultDevice := some s.stepDevice }
            down := busFreed s.down })
    ∧ (∀ i d rs, s.forward.get i = .waiting d rs → s.devState d = .faulted → s.port.hold = .none →
      s.openGrant (.posted i) =
        { s with
          forward := s.forward.set i .free
          window :=
            { s.window with fwdFail := true, ffDevice := some d, ffAddr := (rs.head?.map Run.start).getD 0 }
          down := busFreed s.down })
    ∧ (s.devState 0 = .faulted → s.setup.config = .configured → s.setup.stale = false → s.setup.attempt = .none →
      s.openGrant .setupRead =
        entryOver .reloading
          { s with
            setup := { s.setup with reject := .noAnswer, reload := .none, holding := none }
            window := { s.window with setupNotice := true }
            down := busFreed s.down })
    ∧ (s.devState s.ring.dev = .faulted →
      s.openGrant .scanRead = fellBack s .badRing { busFreed s.down with states := s.down.states.take 1 })

/-- A detection stops the frame and begins a bus clear of up to three attempts; it may fall into any header, byte,
winding up or closing conditions of a READ or a relay. After a clear that succeeds the operation goes on within its
grant: a poll with its next attempt, a frame sent again whole, a READ with its header; a relay sends nothing again: a
byte it holds at A is refused and the frame dead, one awaited at B begins the filling, and its grant goes back, as does
that of a READ or relay whose upstream side has ended, with nothing else waiting; a load attempt that waited for the
relay then places its setup read (R96, R145, R157 to R159). The model's own are: the phases in which a detection is
admitted, and what a clear leaves in DRAINED, FILLING and DEAD (log 31); that the poll at a relayed home write's grant
goes on, its byte held, where R145 could refuse it (log 40); the closing conditions, and that the load attempt goes on
without a poll (log 33); that the grant of one that has ended goes back here, and that a frame begun by a passed-on
repeated start stays live (log 10, log 11). -/
def Obligations.StuckBusIsCleared : Prop :=
  ∀ (s : State) (r : Requester), s.reloadDue = false → s.swapDue = false → s.down.grant = some r →
    let cleared := { s.down with clearing := false, clears := s.down.clears + 1 }
    (∀ d how home a w, s.down.activity = .windUp d how home ∨ s.down.activity = .closing how home
        ∨ s.down.activity = .header a w ∨ s.down.activity = .byte → s.drivesBus = true)
    ∧ (s.down.clearing = false → s.drivesBus = true → s.down.detections < 3 →
      exec .stuckBusDetected s = .next
        { s with down := { s.down with detections := s.down.detections + 1, clearing := true, clears := 0 } })
    ∧ (s.down.clearing = true → s.down.clears + 1 < 3 →
      exec (.busClearAttemptEnd false) s = .next { s with down := { s.down with clears := s.down.clears + 1 } })
    ∧ (∀ p, s.down.clearing = true → s.down.poll = some p →
      exec (.busClearAttemptEnd true) s = .next
        { s with down := { cleared with poll := some { p with attempt := true } } })
    ∧ (s.down.clearing = true → s.down.poll = none → r = .engine → s.down.ended = false →
      exec (.busClearAttemptEnd true) s = .next { s with down := { cleared with activity := s.stepFrame } })
    ∧ (∀ i d rs, s.down.clearing = true → s.down.poll = none → r = .posted i → s.down.ended = false →
      s.forward.get i = .performing d rs →
      exec (.busClearAttemptEnd true) s = .next
        { s with
          down :=
            { cleared with
              activity := .write (s.addrOf d) ((rs.head?.map Run.start).getD 0) (rs.flatMap Run.data) } })
    ∧ (s.down.clearing = true → s.down.poll = none → r = .read → s.down.ended = false →
      s.read.phase = .opening ∨ s.read.phase = .streaming →
      exec (.busClearAttemptEnd true) s = .next
        { s with
          down := { cleared with activity := .header (s.addrOf s.read.dev) (s.port.pointers.get s.read.dev) } })
    ∧ (∀ f, s.down.clearing = true → s.down.poll = none → r = .relay → s.down.ended = false → s.down.upFifo = [] →
      s.down.intReqs = [] → s.port.frame = some f → f.cls = .relay →
      (s.port.hold = .a →
        exec (.busClearAttemptEnd true) s = .next
          { s with relay := none, port := heldRefused s f, down := busFreed cleared })
      ∧ (s.port.hold = .b →
        exec (.busClearAttemptEnd true) s = .next
          { s with
            relay := none
            port :=
              { s.port with
                frame := some { f with filling := true }
                hold := .none, holdTimer := none, idleTimer := some f.idleLimit, sent := some 0xFF }
            down := busFreed cleared }))
    ∧ (∀ f, s.down.clearing = true → s.down.poll = none → r = .relay → s.down.ended = false → s.down.upFifo = [] →
      s.down.intReqs = [] → s.port.frame = some f → f.cls ≠ .relay →
      exec (.busClearAttemptEnd true) s = .next { s with relay := none, down := busFreed cleared })
    ∧ (s.down.clearing = true → s.down.poll = none → r = .read → s.down.ended = false →
      s.read.phase = .drained ∨ s.read.phase = .filling ∨ s.read.phase = .dead →
      exec (.busClearAttemptEnd true) s = .next { s with down := { cleared with activity := .none } })
    ∧ (s.down.clearing = true → s.down.poll = none → s.down.ended = true → s.down.upFifo = [] → s.down.intReqs = [] →
      s.setup.attempt ≠ .awaitPoll →
      exec (.busClearAttemptEnd true) s = .next { s with down := busFreed cleared })
    ∧ (s.down.clearing = true → s.down.poll = none → s.down.ended = true → s.down.upFifo = [] → s.down.intReqs = [] →
      s.setup.attempt = .awaitPoll → s.setup.config = .unconfigured → s.down.states = [.ready] →
      exec (.busClearAttemptEnd true) s = .next
        { s with
          setup := { s.setup with attempt := .granted, readAttempts := 0 }
          down :=
            { busFreed cleared with
              grant := some .setupRead, fairness := 0, detections := 0, speed := s.setup.tables.speed
              activity := .read (homeAddr s.setup.straps) (BitVec.ofNat 16 (setupBase s.setup.straps)) 128 } })

/-- A fourth detection, or a bus clear's third failed attempt, reports BUS_STUCK: every device with a state is FAULTED,
a poll in progress is over, and the operation fails in its requester's terms: the engine halts, a posted write sets
FWD_FAIL, a load ends with NO_ANSWER, a scan falls back with BAD_RING, a READ is refused at its device byte or fills, a
relay's held byte is refused or its read fills and its grant is kept until it closes, and a relay being wound up ends;
a halt during replay and a reload that ends in RELOADING end configuration entry and open the gate (R8, R15, R17, R61,
R62, R83, R96, R140, R145, R160, R171, R179 to R182). That the relay being wound up gives its grant back at the report,
and the stage a kept relay stands in, are the model's reading (log 11). Stated with nothing else waiting for the bus.
-/
def Obligations.BusStuckIsReported : Prop :=
  ∀ (s : State) (r : Requester) (c : Instr), s.reloadDue = false → s.swapDue = false → s.down.grant = some r →
    s.down.upFifo = [] → s.down.intReqs = [] →
    (c = .stuckBusDetected ∧ s.down.clearing = false ∧ s.drivesBus = true ∧ 3 ≤ s.down.detections)
      ∨ (c = .busClearAttemptEnd false ∧ s.down.clearing = true ∧ s.down.clears + 1 = 3) →
    let clears := if c = .stuckBusDetected then s.down.clears else 3
    let states := s.down.states.map fun _ => DevState.faulted
    let freed := busFreed { s.down with states := states, clears := clears }
    (∀ ph, r = .engine → s.engine.state = .phase ph →
      exec c s = .next
        (entryOver .replaying
          { s with
            engine :=
              { s.engine with
                state := .halted, remembered := some (.step ph s.engine.pointer), faultCode := .busStuck
                faultDevice := some s.stepDevice }
            down := freed }))
    ∧ (∀ i d rs, r = .posted i → s.forward.get i = .performing d rs → s.port.hold = .none →
      exec c s = .next
        { s with
          forward := s.forward.set i .free
          window :=
            { s.window with fwdFail := true, ffDevice := some d, ffAddr := (rs.head?.map Run.start).getD 0 }
          down := freed })
    ∧ (r = .scanRead →
      exec c s = .next (fellBack s .badRing { freed with states := states.take 1 }))
    ∧ (r = .homePoll →
      exec c s = .next (fellBack s .noAnswer { freed with states := states.take 1 }))
    ∧ (∀ f, r = .read → s.read.phase = .opening → s.down.ended = false → s.port.frame = some f →
      exec c s = .next
        { s with
          port := heldRefused s f
          read := { s.read with phase := .dead }
          down :=
            { s.down with
              states := states, clears := clears, poll := none, clearing := false, activity := .none } })
    ∧ (r = .setupRead → s.setup.config = .configured → s.setup.stale = false →
      exec c s = .next
        (entryOver .reloading
          { s with
            setup := { s.setup with reject := .noAnswer, reload := .none, holding := none }
            window := { s.window with setupNotice := true }
            down := freed }))
    ∧ (r = .setupRead → s.setup.config = .unconfigured → s.setup.phase = .loading →
      exec c s = .next (fellBack s .noAnswer { freed with states := states.take 1 }))
    ∧ (r = .setupRead → s.setup.config = .unconfigured → s.setup.phase ≠ .loading → s.setup.kept = false →
      exec c s = .next
        { s with
          setup := { s.setup with reject := .noAnswer, attempt := .none, loadBuffer := none }
          window := { s.window with setupNotice := true }
          down := freed })
    ∧ (∀ f, r = .read → s.read.phase = .streaming → s.down.ended = false → s.port.frame = some f → s.port.hold = .b →
      exec c s = .next
        { s with
          port := { s.port with hold := .none, holdTimer := none, idleTimer := some f.idleLimit, sent := some 0xFF }
          read := { s.read with phase := .filling }
          down :=
            { s.down with
              states := states, clears := clears, poll := none, clearing := false, activity := .none } })
    ∧ (∀ f q, r = .relay → s.down.ended = false → s.port.frame = some f → f.cls = .relay → s.port.hold = .b →
      s.relay = some q →
      exec c s = .next
        { s with
          port :=
            { s.port with
              frame := some { f with filling := true }
              hold := .none, holdTimer := none, idleTimer := some f.idleLimit, sent := some 0xFF }
          relay := some { q with stage := .stuck, opened := false }
          down :=
            { s.down with
              states := states, clears := clears, poll := none, clearing := false, activity := .none } })
    ∧ (∀ f q, r = .relay → s.down.ended = false → s.port.frame = some f → f.cls = .relay → s.port.hold = .a →
      s.relay = some q →
      exec c s = .next
        { s with
          port := heldRefused s f
          relay := some { q with stage := .stuck, opened := false }
          down :=
            { s.down with
              states := states, clears := clears, poll := none, clearing := false, activity := .none } })
    ∧ (r = .relay → s.down.ended = true → s.setup.attempt ≠ .awaitPoll → exec c s = .next { s with down := freed })

/-! ## What the part shows and checks -/

/-- The status record has 32 bytes, each as its owner holds it at the moment it is taken; the flags byte and the
device states byte are formed bit by bit, and NOTIFYn is low exactly while one of the five notices is set (R108,
R112, R114 to R116, R186). -/
def Obligations.StatusRecordShowsTheState : Prop :=
  ∀ s : State,
    let r := s.statusRecord
    let flag (i : Nat) : Bool := (byteAt r 5).getLsbD i
    let pair (i : Nat) : BitVec 2 := (byteAt r 19).extractLsb' (2 * i) 2
    r.length = 32
    ∧ byteAt r 0 = (if s.setup.config = .configured then 0x02 else 0x01)
    ∧ byteAt r 1 =
        (match s.setup.reject with
        | .none => 0 | .noAnswer => 1 | .badMagic => 2 | .badCrc => 3 | .badVersion => 4 | .badDevice => 5
        | .badRegion => 6 | .badRing => 7 | .badLimit => 8 | .overlap => 9)
    ∧ byteAt r 2 = s.setup.tables.generation
    ∧ byteAt r 3 =
        (match s.engine.state with
        | .idle => 0 | .phase .journal => 1 | .phase .verify => 2 | .phase .commit => 3 | .phase .apply => 4
        | .phase .retire => 5 | .paused => 6 | .halted => 7)
    ∧ byteAt r 4 =
        (match s.engine.faultCode with
        | .none => 0 | .pollTimeout => 1 | .writeRefused => 2 | .verifyFailed => 3 | .busStuck => 4
        | .deviceFaulted => 5 | .readRefused => 6)
    ∧ flag 0 = s.window.done ∧ flag 1 = decide (s.engine.state = .halted) ∧ flag 2 = s.window.fwdFail
    ∧ flag 3 = s.window.setupNotice ∧ flag 4 = s.queue.lost ∧ flag 5 = decide (s.setup.reload ≠ .none)
    ∧ flag 6 = s.engine.pauseRequested ∧ flag 7 = false
    ∧ byteAt r 6 = s.window.lastMark
    ∧ byteAt r 7 =
        (match s.window.result with
        | .ok => 0 | .empty => 1 | .queueFull => 2 | .lost => 3 | .badMark => 4 | .notHalted => 5 | .unconfigured => 6
        | .notPaused => 7)
    ∧ (s.queue.openGroup = none → byteAt r 8 = 0 ∧ wordAt r 10 = 0)
    ∧ (∀ g, s.queue.openGroup = some g →
        byteAt r 8 = BitVec.ofNat 8 g.entries.length
        ∧ wordAt r 10 = BitVec.ofNat 16 (g.entries.map fun e => e.data.length).sum)
    ∧ byteAt r 9 = BitVec.ofNat 8 s.queue.sealed.length
    ∧ wordAt r 12 = BitVec.ofNat 16 s.freePool ∧ byteAt r 14 = BitVec.ofNat 8 s.freeDescriptors
    ∧ byteAt r 15 = s.window.completion
    ∧ wordAt r 16 = s.journal.lastSeq ∧ byteAt r 18 = s.journal.lastTag
    ∧ (s.setup.config = .unconfigured → byteAt r 19 = 0xFF)
    ∧ (∀ i, i < 4 → s.setup.config = .configured → i < s.setup.tables.devices.length →
        pair i = (match s.devState i with | .ready => 0 | .busy => 1 | .faulted => 2))
    ∧ (∀ i, i < 4 → s.setup.config = .configured → s.setup.tables.devices.length ≤ i → pair i = 3)
    ∧ (∀ i, i < 3 → s.queue.sealed.length ≤ i → byteAt r (20 + i) = 0x00)
    ∧ (∀ i g tag, i < 3 → s.queue.sealed[i]? = some g → g.tag = some tag → byteAt r (20 + i) = tag)
    ∧ (s.queue.sealed = [] → byteAt r 23 = 0)
    ∧ (∀ g gs, s.queue.sealed = g :: gs → byteAt r 23 = BitVec.ofNat 8 g.progress)
    ∧ wordAt r 24 = s.journal.nextSeq ∧ wordAt r 26 = BitVec.ofNat 16 s.journal.head
    ∧ (s.window.ffDevice = none → byteAt r 28 = 0xFF)
    ∧ (∀ i, s.window.ffDevice = some i → byteAt r 28 = BitVec.ofNat 8 i) ∧ wordAt r 29 = s.window.ffAddr
    ∧ (s.engine.faultDevice = none → byteAt r 31 = 0xFF)
    ∧ (∀ i, s.engine.faultDevice = some i → byteAt r 31 = BitVec.ofNat 8 i)
    ∧ (s.notifyLow = true ↔
        s.window.done = true ∨ s.engine.state = .halted ∨ s.window.fwdFail = true ∨ s.window.setupNotice = true
          ∨ s.queue.lost = true)

/-- The limit checks (R13): of a record that passes the checks before them, it is rejected with BAD_LIMIT exactly when
HOLD_LIMIT lies outside 1 to 250, POLL_LIMIT outside 1 to 100, IDLE_LIMIT outside 10 to 250, or the speed field holds
neither 0 nor 1. -/
def Obligations.LimitChecksRejectTheRecord : Prop :=
  ∀ (st : Straps) (bs : List Byte), byteAt bs 0 = 0xC7 → byteAt bs 1 = 0x1E →
    crc16 (bs.take 126) = wordAt bs 126 → byteAt bs 2 = 0x01 → devicesOk st bs = true → regionsOk bs = true →
    ringOk bs = true →
    let hold := (byteAt bs 6).toNat
    let poll := (byteAt bs 7).toNat
    let idle := (byteAt bs 8).toNat
    let speed := (byteAt bs 9).toNat
    validate st bs = .badLimit ↔
      ¬ (1 ≤ hold ∧ hold ≤ 250) ∨ ¬ (1 ≤ poll ∧ poll ≤ 100) ∨ ¬ (10 ≤ idle ∧ idle ≤ 250) ∨ ¬ (speed = 0 ∨ speed = 1)

/-- The device checks (R10): of a record with a good magic, CRC and version, it is rejected with BAD_DEVICE exactly
when the device count is 0 or greater than 4, descriptor 0 has not the home address of the straps, or, among the
first device-count descriptors, an address lies outside 08h to 77h, two addresses are the same, or a capacity code or
page size code is greater than 4. Descriptors beyond the count play no part; a record that passes under one home
address is rejected under another. -/
def Obligations.DeviceChecksRejectTheRecord : Prop :=
  ∀ (st : Straps) (bs : List Byte), byteAt bs 0 = 0xC7 → byteAt bs 1 = 0x1E →
    crc16 (bs.take 126) = wordAt bs 126 → byteAt bs 2 = 0x01 →
    let n := (byteAt bs 4).toNat
    let addr (i : Nat) : Nat := (byteAt bs (16 + 3 * i)).toNat
    let capacity (i : Nat) : Nat := (byteAt bs (17 + 3 * i)).toNat
    let page (i : Nat) : Nat := (byteAt bs (18 + 3 * i)).toNat
    (validate st bs = .badDevice ↔
      n = 0 ∨ 4 < n ∨ addr 0 ≠ (homeAddr st).toNat
        ∨ (∃ i, i < n ∧ (addr i < 0x08 ∨ 0x77 < addr i ∨ 4 < capacity i ∨ 4 < page i))
        ∨ ∃ i j, i < j ∧ j < n ∧ addr i = addr j)
    ∧ ∀ st' : Straps, validate st bs ≠ .badDevice → homeAddr st' ≠ homeAddr st → validate st' bs = .badDevice

/-- The ring checks (R12): of a record that passes the checks before them, it is rejected with BAD_RING exactly when
the journal device index is not below the device count, when the ring ends beyond its device, or when it holds fewer
than 1232 bytes. So 38 pages of 32 bytes are rejected and 39 pass; the smallest rings that pass are 154 pages of 8
bytes, 77 of 16, 39 of 32, 20 of 64 and 10 of 128; and the record of any group that the pool and the descriptors can
hold fits in 1232 bytes. -/
def Obligations.RingChecksRejectTheRecord : Prop :=
  (∀ (st : Straps) (bs : List Byte), byteAt bs 0 = 0xC7 → byteAt bs 1 = 0x1E →
    crc16 (bs.take 126) = wordAt bs 126 → byteAt bs 2 = 0x01 → devicesOk st bs = true → regionsOk bs = true →
    let t := tablesOf bs
    let d := (byteAt bs 10).toNat
    let first := (wordAt bs 11).toNat
    let pages := (wordAt bs 13).toNat
    (validate st bs = .badRing ↔
      (byteAt bs 4).toNat ≤ d ∨ t.capacity d < (first + pages) * t.pageSize d ∨ pages * t.pageSize d < 1232)
    ∧ (t.pageSize d = 32 → pages = 38 → validate st bs = .badRing)
    ∧ (d < (byteAt bs 4).toNat → (first + pages) * t.pageSize d ≤ t.capacity d →
        ((t.pageSize d = 8 → (validate st bs ≠ .badRing ↔ 154 ≤ pages))
        ∧ (t.pageSize d = 16 → (validate st bs ≠ .badRing ↔ 77 ≤ pages))
        ∧ (t.pageSize d = 32 → (validate st bs ≠ .badRing ↔ 39 ≤ pages))
        ∧ (t.pageSize d = 64 → (validate st bs ≠ .badRing ↔ 20 ≤ pages))
        ∧ (t.pageSize d = 128 → (validate st bs ≠ .badRing ↔ 10 ≤ pages)))))
  ∧ (∀ es : List Entry, es.length ≤ 48 → (es.map fun e => e.data.length).sum ≤ 1024 → recordSize es ≤ 1232)
  ∧ ∃ es : List Entry, es.length ≤ 48 ∧ (es.map fun e => e.data.length).sum ≤ 1024 ∧ recordSize es = 1232

/-- A run taken into a group reads back through the overlay: at its own addresses of its device the run's bytes, newest
first, and everywhere else what the group gave before, whether the run was written over the newest entry of the
device or became an entry of its own (R33, R40). -/
def Obligations.StagedBytesReadBack : Prop :=
  ∀ (st : Straps) (g : Group) (d : Nat) (r : Run) (e a : Nat),
    let off := a - r.start.toNat
    (Group.takeRun st d g r).byteFor e a =
      if e = d ∧ r.start.toNat ≤ a ∧ off < r.data.length then r.data[off]? else g.byteFor e a

/-! ## Invariants -/

/-- Every step leaves the arbiter with nothing to do, and keeps the fairness counter within 8 and at 0 while no
internal request waits (R151, R152). -/
def Obligations.StepKeepsArbiterSettled : Prop :=
  ∀ s t : State, s.settled → s.fairnessLaw → step s = .next t → t.settled ∧ t.fairnessLaw

/-- Every step keeps the laws of the staging store: the bytes and descriptors held by the groups and the image never
exceed the pool and the descriptors, and at most three groups are sealed (R22, R27, R28, R33, R39, R44, R45). -/
def Obligations.StepKeepsTheStoreLaw : Prop :=
  ∀ s t : State, s.storeLaw → step s = .next t → t.storeLaw

/-- Every step keeps the tables in force lawful: the defaults while UNCONFIGURED, an accepted record's while
CONFIGURED, with one device state for each device that has one (R2, R3, R9, R16, R147, R153). -/
def Obligations.StepKeepsTheTablesLawful : Prop :=
  ∀ s t : State, s.tablesLaw → step s = .next t → t.tablesLaw

/-- Every step keeps the hold timer running only at a hold point and the idle timer exactly in a frame while the clock
is not held, and a relay only in a frame that can carry one (R127, R128, R131, R135, R141, R144). -/
def Obligations.StepKeepsThePortLaws : Prop :=
  ∀ s t : State, s.timerLaw → s.relayLaw → step s = .next t → t.timerLaw ∧ t.relayLaw

/-- The part in reset satisfies every invariant that the steps keep. -/
def Obligations.ResetHasTheInvariants : Prop :=
  State.reset.settled ∧ State.reset.fairnessLaw ∧ State.reset.storeLaw ∧ State.reset.tablesLaw
    ∧ State.reset.timerLaw ∧ State.reset.relayLaw
end

