-- ==== Sys2Proof/Laws/State.lean ====
section
/-! SUPPORT. One lemma per field of State per update by block, so that no proof unfolds a record update. -/

namespace Sys2Proof.Machine

variable (s : State)

/-! ## updSetup -/

@[simp] theorem State.updSetup_inReset (f : Setup → Setup) : (s.updSetup f).inReset = s.inReset := rfl
@[simp] theorem State.updSetup_setup (f : Setup → Setup) : (s.updSetup f).setup = f s.setup := rfl
@[simp] theorem State.updSetup_store (f : Setup → Setup) : (s.updSetup f).store = s.store := rfl
@[simp] theorem State.updSetup_queue (f : Setup → Setup) : (s.updSetup f).queue = s.queue := rfl
@[simp] theorem State.updSetup_engine (f : Setup → Setup) : (s.updSetup f).engine = s.engine := rfl
@[simp] theorem State.updSetup_journal (f : Setup → Setup) : (s.updSetup f).journal = s.journal := rfl
@[simp] theorem State.updSetup_read (f : Setup → Setup) : (s.updSetup f).read = s.read := rfl
@[simp] theorem State.updSetup_forward (f : Setup → Setup) : (s.updSetup f).forward = s.forward := rfl
@[simp] theorem State.updSetup_window (f : Setup → Setup) : (s.updSetup f).window = s.window := rfl
@[simp] theorem State.updSetup_port (f : Setup → Setup) : (s.updSetup f).port = s.port := rfl
@[simp] theorem State.updSetup_relay (f : Setup → Setup) : (s.updSetup f).relay = s.relay := rfl
@[simp] theorem State.updSetup_down (f : Setup → Setup) : (s.updSetup f).down = s.down := rfl
@[simp] theorem State.updSetup_freeIndex (f : Setup → Setup) : (s.updSetup f).freeIndex = s.freeIndex := rfl
@[simp] theorem State.updSetup_pending (f : Setup → Setup) : (s.updSetup f).pending = s.pending := rfl

/-! ## updStore -/

@[simp] theorem State.updStore_inReset (f : Store → Store) : (s.updStore f).inReset = s.inReset := rfl
@[simp] theorem State.updStore_setup (f : Store → Store) : (s.updStore f).setup = s.setup := rfl
@[simp] theorem State.updStore_store (f : Store → Store) : (s.updStore f).store = f s.store := rfl
@[simp] theorem State.updStore_queue (f : Store → Store) : (s.updStore f).queue = s.queue := rfl
@[simp] theorem State.updStore_engine (f : Store → Store) : (s.updStore f).engine = s.engine := rfl
@[simp] theorem State.updStore_journal (f : Store → Store) : (s.updStore f).journal = s.journal := rfl
@[simp] theorem State.updStore_read (f : Store → Store) : (s.updStore f).read = s.read := rfl
@[simp] theorem State.updStore_forward (f : Store → Store) : (s.updStore f).forward = s.forward := rfl
@[simp] theorem State.updStore_window (f : Store → Store) : (s.updStore f).window = s.window := rfl
@[simp] theorem State.updStore_port (f : Store → Store) : (s.updStore f).port = s.port := rfl
@[simp] theorem State.updStore_relay (f : Store → Store) : (s.updStore f).relay = s.relay := rfl
@[simp] theorem State.updStore_down (f : Store → Store) : (s.updStore f).down = s.down := rfl
@[simp] theorem State.updStore_freeIndex (f : Store → Store) : (s.updStore f).freeIndex = s.freeIndex := rfl
@[simp] theorem State.updStore_pending (f : Store → Store) : (s.updStore f).pending = s.pending := rfl

/-! ## updQueue -/

@[simp] theorem State.updQueue_inReset (f : GroupQueue → GroupQueue) : (s.updQueue f).inReset = s.inReset := rfl
@[simp] theorem State.updQueue_setup (f : GroupQueue → GroupQueue) : (s.updQueue f).setup = s.setup := rfl
@[simp] theorem State.updQueue_store (f : GroupQueue → GroupQueue) : (s.updQueue f).store = s.store := rfl
@[simp] theorem State.updQueue_queue (f : GroupQueue → GroupQueue) : (s.updQueue f).queue = f s.queue := rfl
@[simp] theorem State.updQueue_engine (f : GroupQueue → GroupQueue) : (s.updQueue f).engine = s.engine := rfl
@[simp] theorem State.updQueue_journal (f : GroupQueue → GroupQueue) : (s.updQueue f).journal = s.journal := rfl
@[simp] theorem State.updQueue_read (f : GroupQueue → GroupQueue) : (s.updQueue f).read = s.read := rfl
@[simp] theorem State.updQueue_forward (f : GroupQueue → GroupQueue) : (s.updQueue f).forward = s.forward := rfl
@[simp] theorem State.updQueue_window (f : GroupQueue → GroupQueue) : (s.updQueue f).window = s.window := rfl
@[simp] theorem State.updQueue_port (f : GroupQueue → GroupQueue) : (s.updQueue f).port = s.port := rfl
@[simp] theorem State.updQueue_relay (f : GroupQueue → GroupQueue) : (s.updQueue f).relay = s.relay := rfl
@[simp] theorem State.updQueue_down (f : GroupQueue → GroupQueue) : (s.updQueue f).down = s.down := rfl
@[simp] theorem State.updQueue_freeIndex (f : GroupQueue → GroupQueue) : (s.updQueue f).freeIndex = s.freeIndex := rfl
@[simp] theorem State.updQueue_pending (f : GroupQueue → GroupQueue) : (s.updQueue f).pending = s.pending := rfl

/-! ## updEngine -/

@[simp] theorem State.updEngine_inReset (f : Engine → Engine) : (s.updEngine f).inReset = s.inReset := rfl
@[simp] theorem State.updEngine_setup (f : Engine → Engine) : (s.updEngine f).setup = s.setup := rfl
@[simp] theorem State.updEngine_store (f : Engine → Engine) : (s.updEngine f).store = s.store := rfl
@[simp] theorem State.updEngine_queue (f : Engine → Engine) : (s.updEngine f).queue = s.queue := rfl
@[simp] theorem State.updEngine_engine (f : Engine → Engine) : (s.updEngine f).engine = f s.engine := rfl
@[simp] theorem State.updEngine_journal (f : Engine → Engine) : (s.updEngine f).journal = s.journal := rfl
@[simp] theorem State.updEngine_read (f : Engine → Engine) : (s.updEngine f).read = s.read := rfl
@[simp] theorem State.updEngine_forward (f : Engine → Engine) : (s.updEngine f).forward = s.forward := rfl
@[simp] theorem State.updEngine_window (f : Engine → Engine) : (s.updEngine f).window = s.window := rfl
@[simp] theorem State.updEngine_port (f : Engine → Engine) : (s.updEngine f).port = s.port := rfl
@[simp] theorem State.updEngine_relay (f : Engine → Engine) : (s.updEngine f).relay = s.relay := rfl
@[simp] theorem State.updEngine_down (f : Engine → Engine) : (s.updEngine f).down = s.down := rfl
@[simp] theorem State.updEngine_freeIndex (f : Engine → Engine) : (s.updEngine f).freeIndex = s.freeIndex := rfl
@[simp] theorem State.updEngine_pending (f : Engine → Engine) : (s.updEngine f).pending = s.pending := rfl

/-! ## updJournal -/

@[simp] theorem State.updJournal_inReset (f : Journal → Journal) : (s.updJournal f).inReset = s.inReset := rfl
@[simp] theorem State.updJournal_setup (f : Journal → Journal) : (s.updJournal f).setup = s.setup := rfl
@[simp] theorem State.updJournal_store (f : Journal → Journal) : (s.updJournal f).store = s.store := rfl
@[simp] theorem State.updJournal_queue (f : Journal → Journal) : (s.updJournal f).queue = s.queue := rfl
@[simp] theorem State.updJournal_engine (f : Journal → Journal) : (s.updJournal f).engine = s.engine := rfl
@[simp] theorem State.updJournal_journal (f : Journal → Journal) : (s.updJournal f).journal = f s.journal := rfl
@[simp] theorem State.updJournal_read (f : Journal → Journal) : (s.updJournal f).read = s.read := rfl
@[simp] theorem State.updJournal_forward (f : Journal → Journal) : (s.updJournal f).forward = s.forward := rfl
@[simp] theorem State.updJournal_window (f : Journal → Journal) : (s.updJournal f).window = s.window := rfl
@[simp] theorem State.updJournal_port (f : Journal → Journal) : (s.updJournal f).port = s.port := rfl
@[simp] theorem State.updJournal_relay (f : Journal → Journal) : (s.updJournal f).relay = s.relay := rfl
@[simp] theorem State.updJournal_down (f : Journal → Journal) : (s.updJournal f).down = s.down := rfl
@[simp] theorem State.updJournal_freeIndex (f : Journal → Journal) : (s.updJournal f).freeIndex = s.freeIndex := rfl
@[simp] theorem State.updJournal_pending (f : Journal → Journal) : (s.updJournal f).pending = s.pending := rfl

/-! ## updRead -/

@[simp] theorem State.updRead_inReset (f : ReadService → ReadService) : (s.updRead f).inReset = s.inReset := rfl
@[simp] theorem State.updRead_setup (f : ReadService → ReadService) : (s.updRead f).setup = s.setup := rfl
@[simp] theorem State.updRead_store (f : ReadService → ReadService) : (s.updRead f).store = s.store := rfl
@[simp] theorem State.updRead_queue (f : ReadService → ReadService) : (s.updRead f).queue = s.queue := rfl
@[simp] theorem State.updRead_engine (f : ReadService → ReadService) : (s.updRead f).engine = s.engine := rfl
@[simp] theorem State.updRead_journal (f : ReadService → ReadService) : (s.updRead f).journal = s.journal := rfl
@[simp] theorem State.updRead_read (f : ReadService → ReadService) : (s.updRead f).read = f s.read := rfl
@[simp] theorem State.updRead_forward (f : ReadService → ReadService) : (s.updRead f).forward = s.forward := rfl
@[simp] theorem State.updRead_window (f : ReadService → ReadService) : (s.updRead f).window = s.window := rfl
@[simp] theorem State.updRead_port (f : ReadService → ReadService) : (s.updRead f).port = s.port := rfl
@[simp] theorem State.updRead_relay (f : ReadService → ReadService) : (s.updRead f).relay = s.relay := rfl
@[simp] theorem State.updRead_down (f : ReadService → ReadService) : (s.updRead f).down = s.down := rfl
@[simp] theorem State.updRead_freeIndex (f : ReadService → ReadService) : (s.updRead f).freeIndex = s.freeIndex := rfl
@[simp] theorem State.updRead_pending (f : ReadService → ReadService) : (s.updRead f).pending = s.pending := rfl

/-! ## updForward -/

@[simp] theorem State.updForward_inReset (f : ForwardQueue → ForwardQueue) : (s.updForward f).inReset = s.inReset := rfl
@[simp] theorem State.updForward_setup (f : ForwardQueue → ForwardQueue) : (s.updForward f).setup = s.setup := rfl
@[simp] theorem State.updForward_store (f : ForwardQueue → ForwardQueue) : (s.updForward f).store = s.store := rfl
@[simp] theorem State.updForward_queue (f : ForwardQueue → ForwardQueue) : (s.updForward f).queue = s.queue := rfl
@[simp] theorem State.updForward_engine (f : ForwardQueue → ForwardQueue) : (s.updForward f).engine = s.engine := rfl
@[simp] theorem State.updForward_journal (f : ForwardQueue → ForwardQueue) : (s.updForward f).journal = s.journal := rfl
@[simp] theorem State.updForward_read (f : ForwardQueue → ForwardQueue) : (s.updForward f).read = s.read := rfl
@[simp] theorem State.updForward_forward (f : ForwardQueue → ForwardQueue) : (s.updForward f).forward = f s.forward := rfl
@[simp] theorem State.updForward_window (f : ForwardQueue → ForwardQueue) : (s.updForward f).window = s.window := rfl
@[simp] theorem State.updForward_port (f : ForwardQueue → ForwardQueue) : (s.updForward f).port = s.port := rfl
@[simp] theorem State.updForward_relay (f : ForwardQueue → ForwardQueue) : (s.updForward f).relay = s.relay := rfl
@[simp] theorem State.updForward_down (f : ForwardQueue → ForwardQueue) : (s.updForward f).down = s.down := rfl
@[simp] theorem State.updForward_freeIndex (f : ForwardQueue → ForwardQueue) : (s.updForward f).freeIndex = s.freeIndex := rfl
@[simp] theorem State.updForward_pending (f : ForwardQueue → ForwardQueue) : (s.updForward f).pending = s.pending := rfl

/-! ## updWindow -/

@[simp] theorem State.updWindow_inReset (f : Window → Window) : (s.updWindow f).inReset = s.inReset := rfl
@[simp] theorem State.updWindow_setup (f : Window → Window) : (s.updWindow f).setup = s.setup := rfl
@[simp] theorem State.updWindow_store (f : Window → Window) : (s.updWindow f).store = s.store := rfl
@[simp] theorem State.updWindow_queue (f : Window → Window) : (s.updWindow f).queue = s.queue := rfl
@[simp] theorem State.updWindow_engine (f : Window → Window) : (s.updWindow f).engine = s.engine := rfl
@[simp] theorem State.updWindow_journal (f : Window → Window) : (s.updWindow f).journal = s.journal := rfl
@[simp] theorem State.updWindow_read (f : Window → Window) : (s.updWindow f).read = s.read := rfl
@[simp] theorem State.updWindow_forward (f : Window → Window) : (s.updWindow f).forward = s.forward := rfl
@[simp] theorem State.updWindow_window (f : Window → Window) : (s.updWindow f).window = f s.window := rfl
@[simp] theorem State.updWindow_port (f : Window → Window) : (s.updWindow f).port = s.port := rfl
@[simp] theorem State.updWindow_relay (f : Window → Window) : (s.updWindow f).relay = s.relay := rfl
@[simp] theorem State.updWindow_down (f : Window → Window) : (s.updWindow f).down = s.down := rfl
@[simp] theorem State.updWindow_freeIndex (f : Window → Window) : (s.updWindow f).freeIndex = s.freeIndex := rfl
@[simp] theorem State.updWindow_pending (f : Window → Window) : (s.updWindow f).pending = s.pending := rfl

/-! ## updPort -/

@[simp] theorem State.updPort_inReset (f : Port → Port) : (s.updPort f).inReset = s.inReset := rfl
@[simp] theorem State.updPort_setup (f : Port → Port) : (s.updPort f).setup = s.setup := rfl
@[simp] theorem State.updPort_store (f : Port → Port) : (s.updPort f).store = s.store := rfl
@[simp] theorem State.updPort_queue (f : Port → Port) : (s.updPort f).queue = s.queue := rfl
@[simp] theorem State.updPort_engine (f : Port → Port) : (s.updPort f).engine = s.engine := rfl
@[simp] theorem State.updPort_journal (f : Port → Port) : (s.updPort f).journal = s.journal := rfl
@[simp] theorem State.updPort_read (f : Port → Port) : (s.updPort f).read = s.read := rfl
@[simp] theorem State.updPort_forward (f : Port → Port) : (s.updPort f).forward = s.forward := rfl
@[simp] theorem State.updPort_window (f : Port → Port) : (s.updPort f).window = s.window := rfl
@[simp] theorem State.updPort_port (f : Port → Port) : (s.updPort f).port = f s.port := rfl
@[simp] theorem State.updPort_relay (f : Port → Port) : (s.updPort f).relay = s.relay := rfl
@[simp] theorem State.updPort_down (f : Port → Port) : (s.updPort f).down = s.down := rfl
@[simp] theorem State.updPort_freeIndex (f : Port → Port) : (s.updPort f).freeIndex = s.freeIndex := rfl
@[simp] theorem State.updPort_pending (f : Port → Port) : (s.updPort f).pending = s.pending := rfl

/-! ## updRelay -/

@[simp] theorem State.updRelay_inReset (f : Option Relay → Option Relay) : (s.updRelay f).inReset = s.inReset := rfl
@[simp] theorem State.updRelay_setup (f : Option Relay → Option Relay) : (s.updRelay f).setup = s.setup := rfl
@[simp] theorem State.updRelay_store (f : Option Relay → Option Relay) : (s.updRelay f).store = s.store := rfl
@[simp] theorem State.updRelay_queue (f : Option Relay → Option Relay) : (s.updRelay f).queue = s.queue := rfl
@[simp] theorem State.updRelay_engine (f : Option Relay → Option Relay) : (s.updRelay f).engine = s.engine := rfl
@[simp] theorem State.updRelay_journal (f : Option Relay → Option Relay) : (s.updRelay f).journal = s.journal := rfl
@[simp] theorem State.updRelay_read (f : Option Relay → Option Relay) : (s.updRelay f).read = s.read := rfl
@[simp] theorem State.updRelay_forward (f : Option Relay → Option Relay) : (s.updRelay f).forward = s.forward := rfl
@[simp] theorem State.updRelay_window (f : Option Relay → Option Relay) : (s.updRelay f).window = s.window := rfl
@[simp] theorem State.updRelay_port (f : Option Relay → Option Relay) : (s.updRelay f).port = s.port := rfl
@[simp] theorem State.updRelay_relay (f : Option Relay → Option Relay) : (s.updRelay f).relay = f s.relay := rfl
@[simp] theorem State.updRelay_down (f : Option Relay → Option Relay) : (s.updRelay f).down = s.down := rfl
@[simp] theorem State.updRelay_freeIndex (f : Option Relay → Option Relay) : (s.updRelay f).freeIndex = s.freeIndex := rfl
@[simp] theorem State.updRelay_pending (f : Option Relay → Option Relay) : (s.updRelay f).pending = s.pending := rfl

/-! ## updDown -/

@[simp] theorem State.updDown_inReset (f : Downstream → Downstream) : (s.updDown f).inReset = s.inReset := rfl
@[simp] theorem State.updDown_setup (f : Downstream → Downstream) : (s.updDown f).setup = s.setup := rfl
@[simp] theorem State.updDown_store (f : Downstream → Downstream) : (s.updDown f).store = s.store := rfl
@[simp] theorem State.updDown_queue (f : Downstream → Downstream) : (s.updDown f).queue = s.queue := rfl
@[simp] theorem State.updDown_engine (f : Downstream → Downstream) : (s.updDown f).engine = s.engine := rfl
@[simp] theorem State.updDown_journal (f : Downstream → Downstream) : (s.updDown f).journal = s.journal := rfl
@[simp] theorem State.updDown_read (f : Downstream → Downstream) : (s.updDown f).read = s.read := rfl
@[simp] theorem State.updDown_forward (f : Downstream → Downstream) : (s.updDown f).forward = s.forward := rfl
@[simp] theorem State.updDown_window (f : Downstream → Downstream) : (s.updDown f).window = s.window := rfl
@[simp] theorem State.updDown_port (f : Downstream → Downstream) : (s.updDown f).port = s.port := rfl
@[simp] theorem State.updDown_relay (f : Downstream → Downstream) : (s.updDown f).relay = s.relay := rfl
@[simp] theorem State.updDown_down (f : Downstream → Downstream) : (s.updDown f).down = f s.down := rfl
@[simp] theorem State.updDown_freeIndex (f : Downstream → Downstream) : (s.updDown f).freeIndex = s.freeIndex := rfl
@[simp] theorem State.updDown_pending (f : Downstream → Downstream) : (s.updDown f).pending = s.pending := rfl

end Sys2Proof.Machine
end

