-- ==== Sys2Proof/Laws/Ops.lean ====
section
/-! SUPPORT. What each named operation of Machine/Ops.lean leaves as it is. -/

namespace Sys2Proof.Machine

@[simp] theorem State.setDevState_leaves (i : Nat) (v : DevState) (s : State) :
    (State.setDevState i v s).inReset = s.inReset ∧ (State.setDevState i v s).setup = s.setup
     ∧ (State.setDevState i v s).store = s.store ∧ (State.setDevState i v s).queue = s.queue
     ∧ (State.setDevState i v s).engine = s.engine ∧ (State.setDevState i v s).journal = s.journal
     ∧ (State.setDevState i v s).read = s.read ∧ (State.setDevState i v s).forward = s.forward
     ∧ (State.setDevState i v s).window = s.window ∧ (State.setDevState i v s).port = s.port
     ∧ (State.setDevState i v s).relay = s.relay ∧ (State.setDevState i v s).down.upFifo = s.down.upFifo
     ∧ (State.setDevState i v s).down.intReqs = s.down.intReqs ∧ (State.setDevState i v s).down.grant = s.down.grant
     ∧ (State.setDevState i v s).down.fairness = s.down.fairness ∧ (State.setDevState i v s).down.poll = s.down.poll
     ∧ (State.setDevState i v s).down.detections = s.down.detections
     ∧ (State.setDevState i v s).down.clears = s.down.clears
     ∧ (State.setDevState i v s).down.clearing = s.down.clearing ∧ (State.setDevState i v s).down.ended = s.down.ended
     ∧ (State.setDevState i v s).down.speed = s.down.speed ∧ (State.setDevState i v s).down.activity = s.down.activity
     ∧ (State.setDevState i v s).freeIndex = s.freeIndex ∧ (State.setDevState i v s).pending = s.pending := by
  and_intros <;> unfold State.setDevState <;> (try dsimp only) <;> (repeat' split) <;> first | (simp <;> done) | rfl

@[simp] theorem State.setStateAt_leaves (a : DevAddr) (v : DevState) (s : State) :
    (State.setStateAt a v s).inReset = s.inReset ∧ (State.setStateAt a v s).setup = s.setup
     ∧ (State.setStateAt a v s).store = s.store ∧ (State.setStateAt a v s).queue = s.queue
     ∧ (State.setStateAt a v s).engine = s.engine ∧ (State.setStateAt a v s).journal = s.journal
     ∧ (State.setStateAt a v s).read = s.read ∧ (State.setStateAt a v s).forward = s.forward
     ∧ (State.setStateAt a v s).window = s.window ∧ (State.setStateAt a v s).port = s.port
     ∧ (State.setStateAt a v s).relay = s.relay ∧ (State.setStateAt a v s).down.upFifo = s.down.upFifo
     ∧ (State.setStateAt a v s).down.intReqs = s.down.intReqs ∧ (State.setStateAt a v s).down.grant = s.down.grant
     ∧ (State.setStateAt a v s).down.fairness = s.down.fairness ∧ (State.setStateAt a v s).down.poll = s.down.poll
     ∧ (State.setStateAt a v s).down.detections = s.down.detections
     ∧ (State.setStateAt a v s).down.clears = s.down.clears ∧ (State.setStateAt a v s).down.clearing = s.down.clearing
     ∧ (State.setStateAt a v s).down.ended = s.down.ended ∧ (State.setStateAt a v s).down.speed = s.down.speed
     ∧ (State.setStateAt a v s).down.activity = s.down.activity ∧ (State.setStateAt a v s).freeIndex = s.freeIndex
     ∧ (State.setStateAt a v s).pending = s.pending := by
  and_intros <;> unfold State.setStateAt <;> (try dsimp only) <;> (repeat' split) <;> first | (simp <;> done) | rfl

@[simp] theorem State.setPointer_leaves (i : Nat) (w : Word) (s : State) :
    (State.setPointer i w s).inReset = s.inReset ∧ (State.setPointer i w s).setup = s.setup
     ∧ (State.setPointer i w s).store = s.store ∧ (State.setPointer i w s).queue = s.queue
     ∧ (State.setPointer i w s).engine = s.engine ∧ (State.setPointer i w s).journal = s.journal
     ∧ (State.setPointer i w s).read = s.read ∧ (State.setPointer i w s).forward = s.forward
     ∧ (State.setPointer i w s).window = s.window ∧ (State.setPointer i w s).port.gate = s.port.gate
     ∧ (State.setPointer i w s).port.frame = s.port.frame ∧ (State.setPointer i w s).port.hold = s.port.hold
     ∧ (State.setPointer i w s).port.holdTimer = s.port.holdTimer
     ∧ (State.setPointer i w s).port.idleTimer = s.port.idleTimer
     ∧ (State.setPointer i w s).port.answer = s.port.answer ∧ (State.setPointer i w s).port.sent = s.port.sent
     ∧ (State.setPointer i w s).relay = s.relay ∧ (State.setPointer i w s).down = s.down
     ∧ (State.setPointer i w s).freeIndex = s.freeIndex ∧ (State.setPointer i w s).pending = s.pending := by
  and_intros <;> unfold State.setPointer <;> (try dsimp only) <;> (repeat' split) <;> first | (simp <;> done) | rfl

@[simp] theorem State.advanceWrite_leaves (i : Nat) (s : State) :
    (State.advanceWrite i s).inReset = s.inReset ∧ (State.advanceWrite i s).setup = s.setup
     ∧ (State.advanceWrite i s).store = s.store ∧ (State.advanceWrite i s).queue = s.queue
     ∧ (State.advanceWrite i s).engine = s.engine ∧ (State.advanceWrite i s).journal = s.journal
     ∧ (State.advanceWrite i s).read = s.read ∧ (State.advanceWrite i s).forward = s.forward
     ∧ (State.advanceWrite i s).window = s.window ∧ (State.advanceWrite i s).port.gate = s.port.gate
     ∧ (State.advanceWrite i s).port.frame = s.port.frame ∧ (State.advanceWrite i s).port.hold = s.port.hold
     ∧ (State.advanceWrite i s).port.holdTimer = s.port.holdTimer
     ∧ (State.advanceWrite i s).port.idleTimer = s.port.idleTimer
     ∧ (State.advanceWrite i s).port.answer = s.port.answer ∧ (State.advanceWrite i s).port.sent = s.port.sent
     ∧ (State.advanceWrite i s).relay = s.relay ∧ (State.advanceWrite i s).down = s.down
     ∧ (State.advanceWrite i s).freeIndex = s.freeIndex ∧ (State.advanceWrite i s).pending = s.pending := by
  and_intros <;> unfold State.advanceWrite <;> (try dsimp only) <;> (repeat' split) <;> first | (simp <;> done) | rfl

@[simp] theorem State.updOpen_leaves (f : Group → Group) (s : State) :
    (State.updOpen f s).inReset = s.inReset ∧ (State.updOpen f s).setup = s.setup
     ∧ (State.updOpen f s).store = s.store ∧ (State.updOpen f s).queue.sealed = s.queue.sealed
     ∧ (State.updOpen f s).queue.lost = s.queue.lost ∧ (State.updOpen f s).engine = s.engine
     ∧ (State.updOpen f s).journal = s.journal ∧ (State.updOpen f s).read = s.read
     ∧ (State.updOpen f s).forward = s.forward ∧ (State.updOpen f s).window = s.window
     ∧ (State.updOpen f s).port = s.port ∧ (State.updOpen f s).relay = s.relay ∧ (State.updOpen f s).down = s.down
     ∧ (State.updOpen f s).freeIndex = s.freeIndex ∧ (State.updOpen f s).pending = s.pending := by
  and_intros <;> unfold State.updOpen <;> (try dsimp only) <;> (repeat' split) <;> first | (simp <;> done) | rfl

@[simp] theorem State.releaseImage_leaves (s : State) :
    (State.releaseImage s).inReset = s.inReset ∧ (State.releaseImage s).setup = s.setup
     ∧ (State.releaseImage s).store.claims = s.store.claims ∧ (State.releaseImage s).queue = s.queue
     ∧ (State.releaseImage s).engine = s.engine ∧ (State.releaseImage s).journal = s.journal
     ∧ (State.releaseImage s).read = s.read ∧ (State.releaseImage s).forward = s.forward
     ∧ (State.releaseImage s).window = s.window ∧ (State.releaseImage s).port = s.port
     ∧ (State.releaseImage s).relay = s.relay ∧ (State.releaseImage s).down = s.down
     ∧ (State.releaseImage s).freeIndex = s.freeIndex ∧ (State.releaseImage s).pending = s.pending := by
  and_intros <;> unfold State.releaseImage <;> (try dsimp only) <;> (repeat' split) <;> first | (simp <;> done) | rfl

@[simp] theorem State.loseOpenGroup_leaves (s : State) :
    (State.loseOpenGroup s).inReset = s.inReset ∧ (State.loseOpenGroup s).setup = s.setup
     ∧ (State.loseOpenGroup s).store.claims = s.store.claims ∧ (State.loseOpenGroup s).queue.sealed = s.queue.sealed
     ∧ (State.loseOpenGroup s).engine = s.engine ∧ (State.loseOpenGroup s).journal = s.journal
     ∧ (State.loseOpenGroup s).read = s.read ∧ (State.loseOpenGroup s).forward = s.forward
     ∧ (State.loseOpenGroup s).window = s.window ∧ (State.loseOpenGroup s).port = s.port
     ∧ (State.loseOpenGroup s).relay = s.relay ∧ (State.loseOpenGroup s).down = s.down
     ∧ (State.loseOpenGroup s).freeIndex = s.freeIndex ∧ (State.loseOpenGroup s).pending = s.pending := by
  and_intros <;> unfold State.loseOpenGroup <;> (try dsimp only) <;> (repeat' split) <;> first | (simp <;> done) | rfl

@[simp] theorem State.finalise_leaves (s : State) :
    (State.finalise s).inReset = s.inReset ∧ (State.finalise s).setup = s.setup
     ∧ (State.finalise s).store.claims = s.store.claims ∧ (State.finalise s).queue.sealed = s.queue.sealed
     ∧ (State.finalise s).queue.lost = s.queue.lost ∧ (State.finalise s).engine = s.engine
     ∧ (State.finalise s).journal = s.journal ∧ (State.finalise s).read = s.read
     ∧ (State.finalise s).forward = s.forward ∧ (State.finalise s).window = s.window
     ∧ (State.finalise s).port = s.port ∧ (State.finalise s).relay = s.relay ∧ (State.finalise s).down = s.down
     ∧ (State.finalise s).freeIndex = s.freeIndex ∧ (State.finalise s).pending = s.pending := by
  and_intros <;> unfold State.finalise <;> (try dsimp only) <;> (repeat' split) <;> first | (simp <;> done) | rfl

@[simp] theorem State.takeClaimList_leaves (l : List Group) (s : State) :
    (State.takeClaimList l s).inReset = s.inReset ∧ (State.takeClaimList l s).setup = s.setup
     ∧ (State.takeClaimList l s).store.image = s.store.image
     ∧ (State.takeClaimList l s).queue.openGroup = s.queue.openGroup
     ∧ (State.takeClaimList l s).queue.lost = s.queue.lost ∧ (State.takeClaimList l s).engine = s.engine
     ∧ (State.takeClaimList l s).journal = s.journal ∧ (State.takeClaimList l s).read = s.read
     ∧ (State.takeClaimList l s).forward = s.forward ∧ (State.takeClaimList l s).window = s.window
     ∧ (State.takeClaimList l s).port = s.port ∧ (State.takeClaimList l s).relay = s.relay
     ∧ (State.takeClaimList l s).down = s.down ∧ (State.takeClaimList l s).freeIndex = s.freeIndex
     ∧ (State.takeClaimList l s).pending = s.pending := by
  induction l generalizing s with
  | nil => simp [State.takeClaimList]
  | cons g gs ih => unfold State.takeClaimList; split <;> simp [ih]

@[simp] theorem State.takeClaims_leaves (s : State) :
    (State.takeClaims s).inReset = s.inReset ∧ (State.takeClaims s).setup = s.setup
     ∧ (State.takeClaims s).store.image = s.store.image ∧ (State.takeClaims s).queue.openGroup = s.queue.openGroup
     ∧ (State.takeClaims s).queue.lost = s.queue.lost ∧ (State.takeClaims s).engine = s.engine
     ∧ (State.takeClaims s).journal = s.journal ∧ (State.takeClaims s).read = s.read
     ∧ (State.takeClaims s).forward = s.forward ∧ (State.takeClaims s).window = s.window
     ∧ (State.takeClaims s).port = s.port ∧ (State.takeClaims s).relay = s.relay ∧ (State.takeClaims s).down = s.down
     ∧ (State.takeClaims s).freeIndex = s.freeIndex ∧ (State.takeClaims s).pending = s.pending := by
  and_intros <;> unfold State.takeClaims <;> (try dsimp only) <;> (repeat' split) <;> first | (simp <;> done) | rfl

@[simp] theorem State.setSlot_leaves (i : SlotId) (v : Slot) (s : State) :
    (State.setSlot i v s).inReset = s.inReset ∧ (State.setSlot i v s).setup = s.setup
     ∧ (State.setSlot i v s).store = s.store ∧ (State.setSlot i v s).queue = s.queue
     ∧ (State.setSlot i v s).engine = s.engine ∧ (State.setSlot i v s).journal = s.journal
     ∧ (State.setSlot i v s).read = s.read ∧ (State.setSlot i v s).window = s.window
     ∧ (State.setSlot i v s).port = s.port ∧ (State.setSlot i v s).relay = s.relay
     ∧ (State.setSlot i v s).down = s.down ∧ (State.setSlot i v s).freeIndex = s.freeIndex
     ∧ (State.setSlot i v s).pending = s.pending := by
  and_intros <;> unfold State.setSlot <;> (try dsimp only) <;> (repeat' split) <;> first | (simp <;> done) | rfl

@[simp] theorem State.reserve_leaves (dev : Nat) (start : Word) (b : Byte) (s : State) :
    (State.reserve dev start b s).1.inReset = s.inReset ∧ (State.reserve dev start b s).1.setup = s.setup
     ∧ (State.reserve dev start b s).1.store.claims = s.store.claims
     ∧ (State.reserve dev start b s).1.queue.sealed = s.queue.sealed
     ∧ (State.reserve dev start b s).1.engine = s.engine ∧ (State.reserve dev start b s).1.journal = s.journal
     ∧ (State.reserve dev start b s).1.read = s.read ∧ (State.reserve dev start b s).1.forward = s.forward
     ∧ (State.reserve dev start b s).1.window = s.window ∧ (State.reserve dev start b s).1.port = s.port
     ∧ (State.reserve dev start b s).1.relay = s.relay ∧ (State.reserve dev start b s).1.down = s.down
     ∧ (State.reserve dev start b s).1.freeIndex = s.freeIndex ∧ (State.reserve dev start b s).1.pending = s.pending := by
  and_intros <;> unfold State.reserve <;> (try dsimp only) <;> (repeat' split) <;> first | (simp <;> done) | rfl

@[simp] theorem State.reserveSlot_leaves (dev : Nat) (start : Word) (s : State) :
    (State.reserveSlot dev start s).inReset = s.inReset ∧ (State.reserveSlot dev start s).setup = s.setup
     ∧ (State.reserveSlot dev start s).store = s.store ∧ (State.reserveSlot dev start s).queue = s.queue
     ∧ (State.reserveSlot dev start s).engine = s.engine ∧ (State.reserveSlot dev start s).journal = s.journal
     ∧ (State.reserveSlot dev start s).read = s.read ∧ (State.reserveSlot dev start s).window = s.window
     ∧ (State.reserveSlot dev start s).port = s.port ∧ (State.reserveSlot dev start s).relay = s.relay
     ∧ (State.reserveSlot dev start s).down = s.down ∧ (State.reserveSlot dev start s).freeIndex = s.freeIndex
     ∧ (State.reserveSlot dev start s).pending = s.pending := by
  and_intros <;> unfold State.reserveSlot <;> (try dsimp only) <;> (repeat' split) <;> first | (simp <;> done) | rfl

@[simp] theorem State.collectByte_leaves (b : Byte) (s : State) :
    (State.collectByte b s).inReset = s.inReset ∧ (State.collectByte b s).setup = s.setup
     ∧ (State.collectByte b s).store = s.store ∧ (State.collectByte b s).queue = s.queue
     ∧ (State.collectByte b s).engine = s.engine ∧ (State.collectByte b s).journal = s.journal
     ∧ (State.collectByte b s).read = s.read ∧ (State.collectByte b s).window = s.window
     ∧ (State.collectByte b s).port = s.port ∧ (State.collectByte b s).relay = s.relay
     ∧ (State.collectByte b s).down = s.down ∧ (State.collectByte b s).freeIndex = s.freeIndex
     ∧ (State.collectByte b s).pending = s.pending := by
  and_intros <;> unfold State.collectByte <;> (try dsimp only) <;> (repeat' split) <;> first | (simp <;> done) | rfl

@[simp] theorem State.dropCollecting_leaves (s : State) :
    (State.dropCollecting s).inReset = s.inReset ∧ (State.dropCollecting s).setup = s.setup
     ∧ (State.dropCollecting s).store = s.store ∧ (State.dropCollecting s).queue = s.queue
     ∧ (State.dropCollecting s).engine = s.engine ∧ (State.dropCollecting s).journal = s.journal
     ∧ (State.dropCollecting s).read = s.read ∧ (State.dropCollecting s).window = s.window
     ∧ (State.dropCollecting s).port = s.port ∧ (State.dropCollecting s).relay = s.relay
     ∧ (State.dropCollecting s).down = s.down ∧ (State.dropCollecting s).freeIndex = s.freeIndex
     ∧ (State.dropCollecting s).pending = s.pending := by
  and_intros <;> unfold State.dropCollecting <;> (try dsimp only) <;> (repeat' split) <;> first | (simp <;> done) | rfl

@[simp] theorem State.updFrame_leaves (f : Frame → Frame) (s : State) :
    (State.updFrame f s).inReset = s.inReset ∧ (State.updFrame f s).setup = s.setup
     ∧ (State.updFrame f s).store = s.store ∧ (State.updFrame f s).queue = s.queue
     ∧ (State.updFrame f s).engine = s.engine ∧ (State.updFrame f s).journal = s.journal
     ∧ (State.updFrame f s).read = s.read ∧ (State.updFrame f s).forward = s.forward
     ∧ (State.updFrame f s).window = s.window ∧ (State.updFrame f s).port.gate = s.port.gate
     ∧ (State.updFrame f s).port.hold = s.port.hold ∧ (State.updFrame f s).port.holdTimer = s.port.holdTimer
     ∧ (State.updFrame f s).port.idleTimer = s.port.idleTimer ∧ (State.updFrame f s).port.pointers = s.port.pointers
     ∧ (State.updFrame f s).port.answer = s.port.answer ∧ (State.updFrame f s).port.sent = s.port.sent
     ∧ (State.updFrame f s).relay = s.relay ∧ (State.updFrame f s).down = s.down
     ∧ (State.updFrame f s).freeIndex = s.freeIndex ∧ (State.updFrame f s).pending = s.pending := by
  and_intros <;> unfold State.updFrame <;> (try dsimp only) <;> (repeat' split) <;> first | (simp <;> done) | rfl

@[simp] theorem State.beginFrame_leaves (s : State) :
    (State.beginFrame s).inReset = s.inReset ∧ (State.beginFrame s).setup = s.setup
     ∧ (State.beginFrame s).store = s.store ∧ (State.beginFrame s).queue = s.queue
     ∧ (State.beginFrame s).engine = s.engine ∧ (State.beginFrame s).journal = s.journal
     ∧ (State.beginFrame s).read = s.read ∧ (State.beginFrame s).forward = s.forward
     ∧ (State.beginFrame s).window = s.window ∧ (State.beginFrame s).port.gate = s.port.gate
     ∧ (State.beginFrame s).port.pointers = s.port.pointers ∧ (State.beginFrame s).relay = s.relay
     ∧ (State.beginFrame s).down = s.down ∧ (State.beginFrame s).freeIndex = s.freeIndex
     ∧ (State.beginFrame s).pending = s.pending := by
  and_intros <;> unfold State.beginFrame <;> (try dsimp only) <;> (repeat' split) <;> first | (simp <;> done) | rfl

@[simp] theorem State.clearFrame_leaves (s : State) :
    (State.clearFrame s).inReset = s.inReset ∧ (State.clearFrame s).setup = s.setup
     ∧ (State.clearFrame s).store = s.store ∧ (State.clearFrame s).queue = s.queue
     ∧ (State.clearFrame s).engine = s.engine ∧ (State.clearFrame s).journal = s.journal
     ∧ (State.clearFrame s).read = s.read ∧ (State.clearFrame s).forward = s.forward
     ∧ (State.clearFrame s).window = s.window ∧ (State.clearFrame s).port.gate = s.port.gate
     ∧ (State.clearFrame s).port.pointers = s.port.pointers ∧ (State.clearFrame s).relay = s.relay
     ∧ (State.clearFrame s).down = s.down ∧ (State.clearFrame s).freeIndex = s.freeIndex
     ∧ (State.clearFrame s).pending = s.pending := by
  and_intros <;> unfold State.clearFrame <;> (try dsimp only) <;> (repeat' split) <;> first | (simp <;> done) | rfl

@[simp] theorem State.decideHold_leaves (h : HoldPoint) (s : State) :
    (State.decideHold h s).inReset = s.inReset ∧ (State.decideHold h s).setup = s.setup
     ∧ (State.decideHold h s).store = s.store ∧ (State.decideHold h s).queue = s.queue
     ∧ (State.decideHold h s).engine = s.engine ∧ (State.decideHold h s).journal = s.journal
     ∧ (State.decideHold h s).read = s.read ∧ (State.decideHold h s).forward = s.forward
     ∧ (State.decideHold h s).window = s.window ∧ (State.decideHold h s).port.gate = s.port.gate
     ∧ (State.decideHold h s).port.frame = s.port.frame ∧ (State.decideHold h s).port.pointers = s.port.pointers
     ∧ (State.decideHold h s).port.sent = s.port.sent ∧ (State.decideHold h s).relay = s.relay
     ∧ (State.decideHold h s).down = s.down ∧ (State.decideHold h s).freeIndex = s.freeIndex
     ∧ (State.decideHold h s).pending = s.pending := by
  and_intros <;> unfold State.decideHold <;> (try dsimp only) <;> (repeat' split) <;> first | (simp <;> done) | rfl

@[simp] theorem State.holdClock_leaves (s : State) :
    (State.holdClock s).inReset = s.inReset ∧ (State.holdClock s).setup = s.setup
     ∧ (State.holdClock s).store = s.store ∧ (State.holdClock s).queue = s.queue
     ∧ (State.holdClock s).engine = s.engine ∧ (State.holdClock s).journal = s.journal
     ∧ (State.holdClock s).read = s.read ∧ (State.holdClock s).forward = s.forward
     ∧ (State.holdClock s).window = s.window ∧ (State.holdClock s).port.gate = s.port.gate
     ∧ (State.holdClock s).port.frame = s.port.frame ∧ (State.holdClock s).port.hold = s.port.hold
     ∧ (State.holdClock s).port.pointers = s.port.pointers ∧ (State.holdClock s).port.answer = s.port.answer
     ∧ (State.holdClock s).port.sent = s.port.sent ∧ (State.holdClock s).relay = s.relay
     ∧ (State.holdClock s).down = s.down ∧ (State.holdClock s).freeIndex = s.freeIndex
     ∧ (State.holdClock s).pending = s.pending := by
  and_intros <;> unfold State.holdClock <;> (try dsimp only) <;> (repeat' split) <;> first | (simp <;> done) | rfl

@[simp] theorem State.releaseHold_leaves (s : State) :
    (State.releaseHold s).inReset = s.inReset ∧ (State.releaseHold s).setup = s.setup
     ∧ (State.releaseHold s).store = s.store ∧ (State.releaseHold s).queue = s.queue
     ∧ (State.releaseHold s).engine = s.engine ∧ (State.releaseHold s).journal = s.journal
     ∧ (State.releaseHold s).read = s.read ∧ (State.releaseHold s).forward = s.forward
     ∧ (State.releaseHold s).window = s.window ∧ (State.releaseHold s).port.gate = s.port.gate
     ∧ (State.releaseHold s).port.frame = s.port.frame ∧ (State.releaseHold s).port.pointers = s.port.pointers
     ∧ (State.releaseHold s).port.answer = s.port.answer ∧ (State.releaseHold s).port.sent = s.port.sent
     ∧ (State.releaseHold s).relay = s.relay ∧ (State.releaseHold s).down = s.down
     ∧ (State.releaseHold s).freeIndex = s.freeIndex ∧ (State.releaseHold s).pending = s.pending := by
  and_intros <;> unfold State.releaseHold <;> (try dsimp only) <;> (repeat' split) <;> first | (simp <;> done) | rfl

@[simp] theorem State.answerWith_leaves (ack : Bool) (s : State) :
    (State.answerWith ack s).inReset = s.inReset ∧ (State.answerWith ack s).setup = s.setup
     ∧ (State.answerWith ack s).store = s.store ∧ (State.answerWith ack s).queue = s.queue
     ∧ (State.answerWith ack s).engine = s.engine ∧ (State.answerWith ack s).journal = s.journal
     ∧ (State.answerWith ack s).read = s.read ∧ (State.answerWith ack s).forward = s.forward
     ∧ (State.answerWith ack s).window = s.window ∧ (State.answerWith ack s).port.gate = s.port.gate
     ∧ (State.answerWith ack s).port.frame = s.port.frame ∧ (State.answerWith ack s).port.hold = s.port.hold
     ∧ (State.answerWith ack s).port.holdTimer = s.port.holdTimer
     ∧ (State.answerWith ack s).port.idleTimer = s.port.idleTimer
     ∧ (State.answerWith ack s).port.pointers = s.port.pointers ∧ (State.answerWith ack s).port.sent = s.port.sent
     ∧ (State.answerWith ack s).relay = s.relay ∧ (State.answerWith ack s).down = s.down
     ∧ (State.answerWith ack s).freeIndex = s.freeIndex ∧ (State.answerWith ack s).pending = s.pending := by
  and_intros <;> unfold State.answerWith <;> (try dsimp only) <;> (repeat' split) <;> first | (simp <;> done) | rfl

@[simp] theorem State.sendUp_leaves (b : Byte) (s : State) :
    (State.sendUp b s).inReset = s.inReset ∧ (State.sendUp b s).setup = s.setup ∧ (State.sendUp b s).store = s.store
     ∧ (State.sendUp b s).queue = s.queue ∧ (State.sendUp b s).engine = s.engine
     ∧ (State.sendUp b s).journal = s.journal ∧ (State.sendUp b s).read = s.read
     ∧ (State.sendUp b s).forward = s.forward ∧ (State.sendUp b s).window = s.window
     ∧ (State.sendUp b s).port.gate = s.port.gate ∧ (State.sendUp b s).port.frame = s.port.frame
     ∧ (State.sendUp b s).port.hold = s.port.hold ∧ (State.sendUp b s).port.holdTimer = s.port.holdTimer
     ∧ (State.sendUp b s).port.idleTimer = s.port.idleTimer ∧ (State.sendUp b s).port.pointers = s.port.pointers
     ∧ (State.sendUp b s).port.answer = s.port.answer ∧ (State.sendUp b s).relay = s.relay
     ∧ (State.sendUp b s).down = s.down ∧ (State.sendUp b s).freeIndex = s.freeIndex
     ∧ (State.sendUp b s).pending = s.pending := by
  and_intros <;> unfold State.sendUp <;> (try dsimp only) <;> (repeat' split) <;> first | (simp <;> done) | rfl

@[simp] theorem State.ackData_leaves (s : State) :
    (State.ackData s).inReset = s.inReset ∧ (State.ackData s).setup = s.setup ∧ (State.ackData s).store = s.store
     ∧ (State.ackData s).queue = s.queue ∧ (State.ackData s).engine = s.engine ∧ (State.ackData s).journal = s.journal
     ∧ (State.ackData s).read = s.read ∧ (State.ackData s).forward = s.forward ∧ (State.ackData s).window = s.window
     ∧ (State.ackData s).port.gate = s.port.gate ∧ (State.ackData s).port.hold = s.port.hold
     ∧ (State.ackData s).port.holdTimer = s.port.holdTimer ∧ (State.ackData s).port.idleTimer = s.port.idleTimer
     ∧ (State.ackData s).port.pointers = s.port.pointers ∧ (State.ackData s).port.sent = s.port.sent
     ∧ (State.ackData s).relay = s.relay ∧ (State.ackData s).down = s.down ∧ (State.ackData s).freeIndex = s.freeIndex
     ∧ (State.ackData s).pending = s.pending := by
  and_intros <;> unfold State.ackData <;> (try dsimp only) <;> (repeat' split) <;> first | (simp <;> done) | rfl

@[simp] theorem State.refuseData_leaves (s : State) :
    (State.refuseData s).inReset = s.inReset ∧ (State.refuseData s).setup = s.setup
     ∧ (State.refuseData s).store = s.store ∧ (State.refuseData s).queue = s.queue
     ∧ (State.refuseData s).engine = s.engine ∧ (State.refuseData s).journal = s.journal
     ∧ (State.refuseData s).read = s.read ∧ (State.refuseData s).forward = s.forward
     ∧ (State.refuseData s).window = s.window ∧ (State.refuseData s).port.gate = s.port.gate
     ∧ (State.refuseData s).port.hold = s.port.hold ∧ (State.refuseData s).port.holdTimer = s.port.holdTimer
     ∧ (State.refuseData s).port.idleTimer = s.port.idleTimer ∧ (State.refuseData s).port.pointers = s.port.pointers
     ∧ (State.refuseData s).port.sent = s.port.sent ∧ (State.refuseData s).relay = s.relay
     ∧ (State.refuseData s).down = s.down ∧ (State.refuseData s).freeIndex = s.freeIndex
     ∧ (State.refuseData s).pending = s.pending := by
  and_intros <;> unfold State.refuseData <;> (try dsimp only) <;> (repeat' split) <;> first | (simp <;> done) | rfl

@[simp] theorem State.killFrame_leaves (s : State) :
    (State.killFrame s).inReset = s.inReset ∧ (State.killFrame s).setup = s.setup
     ∧ (State.killFrame s).store = s.store ∧ (State.killFrame s).queue = s.queue
     ∧ (State.killFrame s).engine = s.engine ∧ (State.killFrame s).journal = s.journal
     ∧ (State.killFrame s).read = s.read ∧ (State.killFrame s).forward = s.forward
     ∧ (State.killFrame s).window = s.window ∧ (State.killFrame s).port.gate = s.port.gate
     ∧ (State.killFrame s).port.hold = s.port.hold ∧ (State.killFrame s).port.holdTimer = s.port.holdTimer
     ∧ (State.killFrame s).port.idleTimer = s.port.idleTimer ∧ (State.killFrame s).port.pointers = s.port.pointers
     ∧ (State.killFrame s).port.answer = s.port.answer ∧ (State.killFrame s).port.sent = s.port.sent
     ∧ (State.killFrame s).relay = s.relay ∧ (State.killFrame s).down = s.down
     ∧ (State.killFrame s).freeIndex = s.freeIndex ∧ (State.killFrame s).pending = s.pending := by
  and_intros <;> unfold State.killFrame <;> (try dsimp only) <;> (repeat' split) <;> first | (simp <;> done) | rfl

@[simp] theorem State.refuseHeld_leaves (s : State) :
    (State.refuseHeld s).inReset = s.inReset ∧ (State.refuseHeld s).setup = s.setup
     ∧ (State.refuseHeld s).store = s.store ∧ (State.refuseHeld s).queue = s.queue
     ∧ (State.refuseHeld s).engine = s.engine ∧ (State.refuseHeld s).journal = s.journal
     ∧ (State.refuseHeld s).read = s.read ∧ (State.refuseHeld s).forward = s.forward
     ∧ (State.refuseHeld s).window = s.window ∧ (State.refuseHeld s).port.gate = s.port.gate
     ∧ (State.refuseHeld s).port.pointers = s.port.pointers ∧ (State.refuseHeld s).port.sent = s.port.sent
     ∧ (State.refuseHeld s).relay = s.relay ∧ (State.refuseHeld s).down = s.down
     ∧ (State.refuseHeld s).freeIndex = s.freeIndex ∧ (State.refuseHeld s).pending = s.pending := by
  and_intros <;> unfold State.refuseHeld <;> (try dsimp only) <;> (repeat' split) <;> first | (simp <;> done) | rfl

@[simp] theorem State.placeUp_leaves (r : Requester) (s : State) :
    (State.placeUp r s).inReset = s.inReset ∧ (State.placeUp r s).setup = s.setup
     ∧ (State.placeUp r s).store = s.store ∧ (State.placeUp r s).queue = s.queue
     ∧ (State.placeUp r s).engine = s.engine ∧ (State.placeUp r s).journal = s.journal
     ∧ (State.placeUp r s).read = s.read ∧ (State.placeUp r s).forward = s.forward
     ∧ (State.placeUp r s).window = s.window ∧ (State.placeUp r s).port = s.port ∧ (State.placeUp r s).relay = s.relay
     ∧ (State.placeUp r s).down.intReqs = s.down.intReqs ∧ (State.placeUp r s).down.grant = s.down.grant
     ∧ (State.placeUp r s).down.fairness = s.down.fairness ∧ (State.placeUp r s).down.states = s.down.states
     ∧ (State.placeUp r s).down.poll = s.down.poll ∧ (State.placeUp r s).down.detections = s.down.detections
     ∧ (State.placeUp r s).down.clears = s.down.clears ∧ (State.placeUp r s).down.clearing = s.down.clearing
     ∧ (State.placeUp r s).down.ended = s.down.ended ∧ (State.placeUp r s).down.speed = s.down.speed
     ∧ (State.placeUp r s).down.activity = s.down.activity ∧ (State.placeUp r s).freeIndex = s.freeIndex
     ∧ (State.placeUp r s).pending = s.pending := by
  and_intros <;> unfold State.placeUp <;> (try dsimp only) <;> (repeat' split) <;> first | (simp <;> done) | rfl

@[simp] theorem State.placeInternal_leaves (r : Requester) (s : State) :
    (State.placeInternal r s).inReset = s.inReset ∧ (State.placeInternal r s).setup = s.setup
     ∧ (State.placeInternal r s).store = s.store ∧ (State.placeInternal r s).queue = s.queue
     ∧ (State.placeInternal r s).engine = s.engine ∧ (State.placeInternal r s).journal = s.journal
     ∧ (State.placeInternal r s).read = s.read ∧ (State.placeInternal r s).forward = s.forward
     ∧ (State.placeInternal r s).window = s.window ∧ (State.placeInternal r s).port = s.port
     ∧ (State.placeInternal r s).relay = s.relay ∧ (State.placeInternal r s).down.upFifo = s.down.upFifo
     ∧ (State.placeInternal r s).down.grant = s.down.grant ∧ (State.placeInternal r s).down.fairness = s.down.fairness
     ∧ (State.placeInternal r s).down.states = s.down.states ∧ (State.placeInternal r s).down.poll = s.down.poll
     ∧ (State.placeInternal r s).down.detections = s.down.detections
     ∧ (State.placeInternal r s).down.clears = s.down.clears
     ∧ (State.placeInternal r s).down.clearing = s.down.clearing ∧ (State.placeInternal r s).down.ended = s.down.ended
     ∧ (State.placeInternal r s).down.speed = s.down.speed ∧ (State.placeInternal r s).down.activity = s.down.activity
     ∧ (State.placeInternal r s).freeIndex = s.freeIndex ∧ (State.placeInternal r s).pending = s.pending := by
  and_intros <;> unfold State.placeInternal <;> (try dsimp only) <;> (repeat' split) <;> first | (simp <;> done) | rfl

@[simp] theorem State.withdraw_leaves (r : Requester) (s : State) :
    (State.withdraw r s).inReset = s.inReset ∧ (State.withdraw r s).setup = s.setup
     ∧ (State.withdraw r s).store = s.store ∧ (State.withdraw r s).queue = s.queue
     ∧ (State.withdraw r s).engine = s.engine ∧ (State.withdraw r s).journal = s.journal
     ∧ (State.withdraw r s).read = s.read ∧ (State.withdraw r s).forward = s.forward
     ∧ (State.withdraw r s).window = s.window ∧ (State.withdraw r s).port = s.port
     ∧ (State.withdraw r s).relay = s.relay ∧ (State.withdraw r s).down.intReqs = s.down.intReqs
     ∧ (State.withdraw r s).down.grant = s.down.grant ∧ (State.withdraw r s).down.fairness = s.down.fairness
     ∧ (State.withdraw r s).down.states = s.down.states ∧ (State.withdraw r s).down.poll = s.down.poll
     ∧ (State.withdraw r s).down.detections = s.down.detections ∧ (State.withdraw r s).down.clears = s.down.clears
     ∧ (State.withdraw r s).down.clearing = s.down.clearing ∧ (State.withdraw r s).down.ended = s.down.ended
     ∧ (State.withdraw r s).down.speed = s.down.speed ∧ (State.withdraw r s).down.activity = s.down.activity
     ∧ (State.withdraw r s).freeIndex = s.freeIndex ∧ (State.withdraw r s).pending = s.pending := by
  and_intros <;> unfold State.withdraw <;> (try dsimp only) <;> (repeat' split) <;> first | (simp <;> done) | rfl

@[simp] theorem State.freeBus_leaves (s : State) :
    (State.freeBus s).inReset = s.inReset ∧ (State.freeBus s).setup = s.setup ∧ (State.freeBus s).store = s.store
     ∧ (State.freeBus s).queue = s.queue ∧ (State.freeBus s).engine = s.engine ∧ (State.freeBus s).journal = s.journal
     ∧ (State.freeBus s).read = s.read ∧ (State.freeBus s).forward = s.forward ∧ (State.freeBus s).window = s.window
     ∧ (State.freeBus s).port = s.port ∧ (State.freeBus s).relay = s.relay
     ∧ (State.freeBus s).down.upFifo = s.down.upFifo ∧ (State.freeBus s).down.intReqs = s.down.intReqs
     ∧ (State.freeBus s).down.fairness = s.down.fairness ∧ (State.freeBus s).down.states = s.down.states
     ∧ (State.freeBus s).down.detections = s.down.detections ∧ (State.freeBus s).down.clears = s.down.clears
     ∧ (State.freeBus s).down.speed = s.down.speed ∧ (State.freeBus s).freeIndex = s.freeIndex
     ∧ (State.freeBus s).pending = s.pending := by
  and_intros <;> unfold State.freeBus <;> (try dsimp only) <;> (repeat' split) <;> first | (simp <;> done) | rfl

@[simp] theorem State.setActivity_leaves (a : Activity) (s : State) :
    (State.setActivity a s).inReset = s.inReset ∧ (State.setActivity a s).setup = s.setup
     ∧ (State.setActivity a s).store = s.store ∧ (State.setActivity a s).queue = s.queue
     ∧ (State.setActivity a s).engine = s.engine ∧ (State.setActivity a s).journal = s.journal
     ∧ (State.setActivity a s).read = s.read ∧ (State.setActivity a s).forward = s.forward
     ∧ (State.setActivity a s).window = s.window ∧ (State.setActivity a s).port = s.port
     ∧ (State.setActivity a s).relay = s.relay ∧ (State.setActivity a s).down.upFifo = s.down.upFifo
     ∧ (State.setActivity a s).down.intReqs = s.down.intReqs ∧ (State.setActivity a s).down.grant = s.down.grant
     ∧ (State.setActivity a s).down.fairness = s.down.fairness ∧ (State.setActivity a s).down.states = s.down.states
     ∧ (State.setActivity a s).down.poll = s.down.poll ∧ (State.setActivity a s).down.detections = s.down.detections
     ∧ (State.setActivity a s).down.clears = s.down.clears ∧ (State.setActivity a s).down.clearing = s.down.clearing
     ∧ (State.setActivity a s).down.ended = s.down.ended ∧ (State.setActivity a s).down.speed = s.down.speed
     ∧ (State.setActivity a s).freeIndex = s.freeIndex ∧ (State.setActivity a s).pending = s.pending := by
  and_intros <;> unfold State.setActivity <;> (try dsimp only) <;> (repeat' split) <;> first | (simp <;> done) | rfl

@[simp] theorem State.pollAtGrant_leaves (a : DevAddr) (s : State) :
    (State.pollAtGrant a s).inReset = s.inReset ∧ (State.pollAtGrant a s).setup = s.setup
     ∧ (State.pollAtGrant a s).store = s.store ∧ (State.pollAtGrant a s).queue = s.queue
     ∧ (State.pollAtGrant a s).engine = s.engine ∧ (State.pollAtGrant a s).journal = s.journal
     ∧ (State.pollAtGrant a s).read = s.read ∧ (State.pollAtGrant a s).forward = s.forward
     ∧ (State.pollAtGrant a s).window = s.window ∧ (State.pollAtGrant a s).port = s.port
     ∧ (State.pollAtGrant a s).relay = s.relay ∧ (State.pollAtGrant a s).down.upFifo = s.down.upFifo
     ∧ (State.pollAtGrant a s).down.intReqs = s.down.intReqs ∧ (State.pollAtGrant a s).down.grant = s.down.grant
     ∧ (State.pollAtGrant a s).down.fairness = s.down.fairness ∧ (State.pollAtGrant a s).down.states = s.down.states
     ∧ (State.pollAtGrant a s).down.detections = s.down.detections
     ∧ (State.pollAtGrant a s).down.clears = s.down.clears ∧ (State.pollAtGrant a s).down.clearing = s.down.clearing
     ∧ (State.pollAtGrant a s).down.ended = s.down.ended ∧ (State.pollAtGrant a s).down.speed = s.down.speed
     ∧ (State.pollAtGrant a s).freeIndex = s.freeIndex ∧ (State.pollAtGrant a s).pending = s.pending := by
  and_intros <;> unfold State.pollAtGrant <;> (try dsimp only) <;> (repeat' split) <;> first | (simp <;> done) | rfl

@[simp] theorem State.pollAfterWrite_leaves (a : DevAddr) (refused : Bool) (s : State) :
    (State.pollAfterWrite a refused s).inReset = s.inReset ∧ (State.pollAfterWrite a refused s).setup = s.setup
     ∧ (State.pollAfterWrite a refused s).store = s.store ∧ (State.pollAfterWrite a refused s).queue = s.queue
     ∧ (State.pollAfterWrite a refused s).engine = s.engine ∧ (State.pollAfterWrite a refused s).journal = s.journal
     ∧ (State.pollAfterWrite a refused s).read = s.read ∧ (State.pollAfterWrite a refused s).forward = s.forward
     ∧ (State.pollAfterWrite a refused s).window = s.window ∧ (State.pollAfterWrite a refused s).port = s.port
     ∧ (State.pollAfterWrite a refused s).relay = s.relay
     ∧ (State.pollAfterWrite a refused s).down.upFifo = s.down.upFifo
     ∧ (State.pollAfterWrite a refused s).down.intReqs = s.down.intReqs
     ∧ (State.pollAfterWrite a refused s).down.grant = s.down.grant
     ∧ (State.pollAfterWrite a refused s).down.fairness = s.down.fairness
     ∧ (State.pollAfterWrite a refused s).down.detections = s.down.detections
     ∧ (State.pollAfterWrite a refused s).down.clears = s.down.clears
     ∧ (State.pollAfterWrite a refused s).down.clearing = s.down.clearing
     ∧ (State.pollAfterWrite a refused s).down.ended = s.down.ended
     ∧ (State.pollAfterWrite a refused s).down.speed = s.down.speed
     ∧ (State.pollAfterWrite a refused s).freeIndex = s.freeIndex
     ∧ (State.pollAfterWrite a refused s).pending = s.pending := by
  and_intros <;> unfold State.pollAfterWrite <;> (try dsimp only) <;> (repeat' split) <;> first | (simp <;> done) | rfl

@[simp] theorem State.endPoll_leaves (s : State) :
    (State.endPoll s).inReset = s.inReset ∧ (State.endPoll s).setup = s.setup ∧ (State.endPoll s).store = s.store
     ∧ (State.endPoll s).queue = s.queue ∧ (State.endPoll s).engine = s.engine ∧ (State.endPoll s).journal = s.journal
     ∧ (State.endPoll s).read = s.read ∧ (State.endPoll s).forward = s.forward ∧ (State.endPoll s).window = s.window
     ∧ (State.endPoll s).port = s.port ∧ (State.endPoll s).relay = s.relay
     ∧ (State.endPoll s).down.upFifo = s.down.upFifo ∧ (State.endPoll s).down.intReqs = s.down.intReqs
     ∧ (State.endPoll s).down.grant = s.down.grant ∧ (State.endPoll s).down.fairness = s.down.fairness
     ∧ (State.endPoll s).down.states = s.down.states ∧ (State.endPoll s).down.detections = s.down.detections
     ∧ (State.endPoll s).down.clears = s.down.clears ∧ (State.endPoll s).down.clearing = s.down.clearing
     ∧ (State.endPoll s).down.ended = s.down.ended ∧ (State.endPoll s).down.speed = s.down.speed
     ∧ (State.endPoll s).down.activity = s.down.activity ∧ (State.endPoll s).freeIndex = s.freeIndex
     ∧ (State.endPoll s).pending = s.pending := by
  and_intros <;> unfold State.endPoll <;> (try dsimp only) <;> (repeat' split) <;> first | (simp <;> done) | rfl

@[simp] theorem State.markEnded_leaves (s : State) :
    (State.markEnded s).inReset = s.inReset ∧ (State.markEnded s).setup = s.setup
     ∧ (State.markEnded s).store = s.store ∧ (State.markEnded s).queue = s.queue
     ∧ (State.markEnded s).engine = s.engine ∧ (State.markEnded s).journal = s.journal
     ∧ (State.markEnded s).read = s.read ∧ (State.markEnded s).forward = s.forward
     ∧ (State.markEnded s).window = s.window ∧ (State.markEnded s).port = s.port ∧ (State.markEnded s).relay = s.relay
     ∧ (State.markEnded s).down.upFifo = s.down.upFifo ∧ (State.markEnded s).down.intReqs = s.down.intReqs
     ∧ (State.markEnded s).down.grant = s.down.grant ∧ (State.markEnded s).down.fairness = s.down.fairness
     ∧ (State.markEnded s).down.states = s.down.states ∧ (State.markEnded s).down.poll = s.down.poll
     ∧ (State.markEnded s).down.detections = s.down.detections ∧ (State.markEnded s).down.clears = s.down.clears
     ∧ (State.markEnded s).down.clearing = s.down.clearing ∧ (State.markEnded s).down.speed = s.down.speed
     ∧ (State.markEnded s).down.activity = s.down.activity ∧ (State.markEnded s).freeIndex = s.freeIndex
     ∧ (State.markEnded s).pending = s.pending := by
  and_intros <;> unfold State.markEnded <;> (try dsimp only) <;> (repeat' split) <;> first | (simp <;> done) | rfl

@[simp] theorem State.beginClosing_leaves (how : Closing) (home : Bool) (s : State) :
    (State.beginClosing how home s).inReset = s.inReset ∧ (State.beginClosing how home s).setup = s.setup
     ∧ (State.beginClosing how home s).store = s.store ∧ (State.beginClosing how home s).queue = s.queue
     ∧ (State.beginClosing how home s).engine = s.engine ∧ (State.beginClosing how home s).journal = s.journal
     ∧ (State.beginClosing how home s).read = s.read ∧ (State.beginClosing how home s).forward = s.forward
     ∧ (State.beginClosing how home s).window = s.window ∧ (State.beginClosing how home s).port = s.port
     ∧ (State.beginClosing how home s).relay = s.relay ∧ (State.beginClosing how home s).down.upFifo = s.down.upFifo
     ∧ (State.beginClosing how home s).down.intReqs = s.down.intReqs
     ∧ (State.beginClosing how home s).down.grant = s.down.grant
     ∧ (State.beginClosing how home s).down.fairness = s.down.fairness
     ∧ (State.beginClosing how home s).down.states = s.down.states ∧ (State.beginClosing how home s).down.poll = s.down.poll
     ∧ (State.beginClosing how home s).down.detections = s.down.detections
     ∧ (State.beginClosing how home s).down.clears = s.down.clears
     ∧ (State.beginClosing how home s).down.clearing = s.down.clearing
     ∧ (State.beginClosing how home s).down.ended = s.down.ended ∧ (State.beginClosing how home s).down.speed = s.down.speed
     ∧ (State.beginClosing how home s).freeIndex = s.freeIndex ∧ (State.beginClosing how home s).pending = s.pending := by
  and_intros <;> unfold State.beginClosing <;> (try dsimp only) <;> (repeat' split) <;> first | (simp <;> done) | rfl

@[simp] theorem State.closed_leaves (home : Bool) (s : State) :
    (State.closed home s).inReset = s.inReset ∧ (State.closed home s).setup = s.setup
     ∧ (State.closed home s).store = s.store ∧ (State.closed home s).queue = s.queue
     ∧ (State.closed home s).engine = s.engine ∧ (State.closed home s).journal = s.journal
     ∧ (State.closed home s).read = s.read ∧ (State.closed home s).forward = s.forward
     ∧ (State.closed home s).window = s.window ∧ (State.closed home s).port = s.port
     ∧ (State.closed home s).relay = s.relay ∧ (State.closed home s).down.upFifo = s.down.upFifo
     ∧ (State.closed home s).down.intReqs = s.down.intReqs ∧ (State.closed home s).down.fairness = s.down.fairness
     ∧ (State.closed home s).down.detections = s.down.detections ∧ (State.closed home s).down.clears = s.down.clears
     ∧ (State.closed home s).down.speed = s.down.speed ∧ (State.closed home s).freeIndex = s.freeIndex
     ∧ (State.closed home s).pending = s.pending := by
  and_intros <;> unfold State.closed <;> (try dsimp only) <;> (repeat' split) <;> first | (simp <;> done) | rfl

@[simp] theorem State.forwardFailure_leaves (dev : Nat) (a : Word) (s : State) :
    (State.forwardFailure dev a s).inReset = s.inReset ∧ (State.forwardFailure dev a s).setup = s.setup
     ∧ (State.forwardFailure dev a s).store = s.store ∧ (State.forwardFailure dev a s).queue = s.queue
     ∧ (State.forwardFailure dev a s).engine = s.engine ∧ (State.forwardFailure dev a s).journal = s.journal
     ∧ (State.forwardFailure dev a s).read = s.read ∧ (State.forwardFailure dev a s).forward = s.forward
     ∧ (State.forwardFailure dev a s).window.lastMark = s.window.lastMark
     ∧ (State.forwardFailure dev a s).window.result = s.window.result
     ∧ (State.forwardFailure dev a s).window.done = s.window.done
     ∧ (State.forwardFailure dev a s).window.setupNotice = s.window.setupNotice
     ∧ (State.forwardFailure dev a s).window.completion = s.window.completion
     ∧ (State.forwardFailure dev a s).port = s.port ∧ (State.forwardFailure dev a s).relay = s.relay
     ∧ (State.forwardFailure dev a s).down = s.down ∧ (State.forwardFailure dev a s).freeIndex = s.freeIndex
     ∧ (State.forwardFailure dev a s).pending = s.pending := by
  and_intros <;> unfold State.forwardFailure <;> (try dsimp only) <;> (repeat' split) <;> first | (simp <;> done) | rfl

@[simp] theorem State.rejectSetup_leaves (r : Reject) (s : State) :
    (State.rejectSetup r s).inReset = s.inReset ∧ (State.rejectSetup r s).setup.straps = s.setup.straps
     ∧ (State.rejectSetup r s).setup.config = s.setup.config ∧ (State.rejectSetup r s).setup.tables = s.setup.tables
     ∧ (State.rejectSetup r s).setup.reload = s.setup.reload ∧ (State.rejectSetup r s).setup.holding = s.setup.holding
     ∧ (State.rejectSetup r s).setup.loadBuffer = s.setup.loadBuffer
     ∧ (State.rejectSetup r s).setup.stale = s.setup.stale ∧ (State.rejectSetup r s).setup.attempt = s.setup.attempt
     ∧ (State.rejectSetup r s).setup.kept = s.setup.kept
     ∧ (State.rejectSetup r s).setup.readAttempts = s.setup.readAttempts
     ∧ (State.rejectSetup r s).setup.phase = s.setup.phase ∧ (State.rejectSetup r s).store = s.store
     ∧ (State.rejectSetup r s).queue = s.queue ∧ (State.rejectSetup r s).engine = s.engine
     ∧ (State.rejectSetup r s).journal = s.journal ∧ (State.rejectSetup r s).read = s.read
     ∧ (State.rejectSetup r s).forward = s.forward ∧ (State.rejectSetup r s).window.lastMark = s.window.lastMark
     ∧ (State.rejectSetup r s).window.result = s.window.result ∧ (State.rejectSetup r s).window.done = s.window.done
     ∧ (State.rejectSetup r s).window.fwdFail = s.window.fwdFail
     ∧ (State.rejectSetup r s).window.completion = s.window.completion
     ∧ (State.rejectSetup r s).window.ffDevice = s.window.ffDevice
     ∧ (State.rejectSetup r s).window.ffAddr = s.window.ffAddr ∧ (State.rejectSetup r s).port = s.port
     ∧ (State.rejectSetup r s).relay = s.relay ∧ (State.rejectSetup r s).down = s.down
     ∧ (State.rejectSetup r s).freeIndex = s.freeIndex ∧ (State.rejectSetup r s).pending = s.pending := by
  and_intros <;> unfold State.rejectSetup <;> (try dsimp only) <;> (repeat' split) <;> first | (simp <;> done) | rfl

@[simp] theorem State.openGate_leaves (s : State) :
    (State.openGate s).inReset = s.inReset ∧ (State.openGate s).setup.straps = s.setup.straps
     ∧ (State.openGate s).setup.config = s.setup.config ∧ (State.openGate s).setup.reject = s.setup.reject
     ∧ (State.openGate s).setup.tables = s.setup.tables ∧ (State.openGate s).setup.reload = s.setup.reload
     ∧ (State.openGate s).setup.holding = s.setup.holding ∧ (State.openGate s).setup.loadBuffer = s.setup.loadBuffer
     ∧ (State.openGate s).setup.stale = s.setup.stale ∧ (State.openGate s).setup.attempt = s.setup.attempt
     ∧ (State.openGate s).setup.kept = s.setup.kept ∧ (State.openGate s).setup.readAttempts = s.setup.readAttempts
     ∧ (State.openGate s).store = s.store ∧ (State.openGate s).queue = s.queue ∧ (State.openGate s).engine = s.engine
     ∧ (State.openGate s).journal = s.journal ∧ (State.openGate s).read = s.read
     ∧ (State.openGate s).forward = s.forward ∧ (State.openGate s).window = s.window
     ∧ (State.openGate s).port.frame = s.port.frame ∧ (State.openGate s).port.hold = s.port.hold
     ∧ (State.openGate s).port.holdTimer = s.port.holdTimer ∧ (State.openGate s).port.idleTimer = s.port.idleTimer
     ∧ (State.openGate s).port.pointers = s.port.pointers ∧ (State.openGate s).port.answer = s.port.answer
     ∧ (State.openGate s).port.sent = s.port.sent ∧ (State.openGate s).relay = s.relay
     ∧ (State.openGate s).down = s.down ∧ (State.openGate s).freeIndex = s.freeIndex
     ∧ (State.openGate s).pending = s.pending := by
  and_intros <;> unfold State.openGate <;> (try dsimp only) <;> (repeat' split) <;> first | (simp <;> done) | rfl

end Sys2Proof.Machine
end

