-- ==== Sys2Proof/Laws/Engine.lean ====
section
/-! SUPPORT. What each operation of the commit engine leaves as it is. -/

namespace Sys2Proof.Machine

@[simp] theorem State.updCurrent_leaves (f : Group → Group) (s : State) :
    (State.updCurrent f s).inReset = s.inReset ∧ (State.updCurrent f s).setup = s.setup
     ∧ (State.updCurrent f s).store = s.store ∧ (State.updCurrent f s).queue.openGroup = s.queue.openGroup
     ∧ (State.updCurrent f s).queue.lost = s.queue.lost ∧ (State.updCurrent f s).engine = s.engine
     ∧ (State.updCurrent f s).journal = s.journal ∧ (State.updCurrent f s).read = s.read
     ∧ (State.updCurrent f s).forward = s.forward ∧ (State.updCurrent f s).window = s.window
     ∧ (State.updCurrent f s).port = s.port ∧ (State.updCurrent f s).relay = s.relay
     ∧ (State.updCurrent f s).down = s.down ∧ (State.updCurrent f s).freeIndex = s.freeIndex
     ∧ (State.updCurrent f s).pending = s.pending := by
  and_intros <;> unfold State.updCurrent <;> (try dsimp only) <;> (repeat' split) <;> first | (simp <;> done) | rfl

@[simp] theorem State.beginStep_leaves (p : Phase) (pointer : Nat) (s : State) :
    (State.beginStep p pointer s).inReset = s.inReset ∧ (State.beginStep p pointer s).setup = s.setup
     ∧ (State.beginStep p pointer s).store = s.store ∧ (State.beginStep p pointer s).queue = s.queue
     ∧ (State.beginStep p pointer s).engine.pauseRequested = s.engine.pauseRequested
     ∧ (State.beginStep p pointer s).engine.faultCode = s.engine.faultCode
     ∧ (State.beginStep p pointer s).engine.faultDevice = s.engine.faultDevice
     ∧ (State.beginStep p pointer s).journal = s.journal ∧ (State.beginStep p pointer s).read = s.read
     ∧ (State.beginStep p pointer s).forward = s.forward ∧ (State.beginStep p pointer s).window = s.window
     ∧ (State.beginStep p pointer s).port = s.port ∧ (State.beginStep p pointer s).relay = s.relay
     ∧ (State.beginStep p pointer s).down.upFifo = s.down.upFifo
     ∧ (State.beginStep p pointer s).down.grant = s.down.grant
     ∧ (State.beginStep p pointer s).down.fairness = s.down.fairness
     ∧ (State.beginStep p pointer s).down.states = s.down.states
     ∧ (State.beginStep p pointer s).down.poll = s.down.poll
     ∧ (State.beginStep p pointer s).down.detections = s.down.detections
     ∧ (State.beginStep p pointer s).down.clears = s.down.clears
     ∧ (State.beginStep p pointer s).down.clearing = s.down.clearing
     ∧ (State.beginStep p pointer s).down.ended = s.down.ended
     ∧ (State.beginStep p pointer s).down.speed = s.down.speed
     ∧ (State.beginStep p pointer s).down.activity = s.down.activity
     ∧ (State.beginStep p pointer s).freeIndex = s.freeIndex ∧ (State.beginStep p pointer s).pending = s.pending := by
  and_intros <;> unfold State.beginStep <;> (try dsimp only) <;> (repeat' split) <;> first | (simp <;> done) | rfl

@[simp] theorem State.beginPass_leaves (s : State) :
    (State.beginPass s).inReset = s.inReset ∧ (State.beginPass s).setup = s.setup
     ∧ (State.beginPass s).store = s.store ∧ (State.beginPass s).queue.openGroup = s.queue.openGroup
     ∧ (State.beginPass s).queue.lost = s.queue.lost
     ∧ (State.beginPass s).engine.pauseRequested = s.engine.pauseRequested
     ∧ (State.beginPass s).engine.faultCode = s.engine.faultCode
     ∧ (State.beginPass s).engine.faultDevice = s.engine.faultDevice
     ∧ (State.beginPass s).journal.head = s.journal.head ∧ (State.beginPass s).journal.nextSeq = s.journal.nextSeq
     ∧ (State.beginPass s).journal.lastSeq = s.journal.lastSeq
     ∧ (State.beginPass s).journal.lastTag = s.journal.lastTag ∧ (State.beginPass s).journal.scan = s.journal.scan
     ∧ (State.beginPass s).read = s.read ∧ (State.beginPass s).forward = s.forward
     ∧ (State.beginPass s).window = s.window ∧ (State.beginPass s).port = s.port ∧ (State.beginPass s).relay = s.relay
     ∧ (State.beginPass s).down.upFifo = s.down.upFifo ∧ (State.beginPass s).down.grant = s.down.grant
     ∧ (State.beginPass s).down.fairness = s.down.fairness ∧ (State.beginPass s).down.states = s.down.states
     ∧ (State.beginPass s).down.poll = s.down.poll ∧ (State.beginPass s).down.detections = s.down.detections
     ∧ (State.beginPass s).down.clears = s.down.clears ∧ (State.beginPass s).down.clearing = s.down.clearing
     ∧ (State.beginPass s).down.ended = s.down.ended ∧ (State.beginPass s).down.speed = s.down.speed
     ∧ (State.beginPass s).down.activity = s.down.activity ∧ (State.beginPass s).freeIndex = s.freeIndex
     ∧ (State.beginPass s).pending = s.pending := by
  and_intros <;> unfold State.beginPass <;> (try dsimp only) <;> (repeat' split) <;> first | (simp <;> done) | rfl

@[simp] theorem State.startGroup_leaves (s : State) :
    (State.startGroup s).inReset = s.inReset ∧ (State.startGroup s).setup = s.setup
     ∧ (State.startGroup s).store = s.store ∧ (State.startGroup s).queue.openGroup = s.queue.openGroup
     ∧ (State.startGroup s).queue.lost = s.queue.lost
     ∧ (State.startGroup s).engine.pauseRequested = s.engine.pauseRequested
     ∧ (State.startGroup s).engine.faultCode = s.engine.faultCode
     ∧ (State.startGroup s).engine.faultDevice = s.engine.faultDevice
     ∧ (State.startGroup s).journal.head = s.journal.head ∧ (State.startGroup s).journal.nextSeq = s.journal.nextSeq
     ∧ (State.startGroup s).journal.lastSeq = s.journal.lastSeq
     ∧ (State.startGroup s).journal.lastTag = s.journal.lastTag ∧ (State.startGroup s).journal.scan = s.journal.scan
     ∧ (State.startGroup s).read = s.read ∧ (State.startGroup s).forward = s.forward
     ∧ (State.startGroup s).window = s.window ∧ (State.startGroup s).port = s.port
     ∧ (State.startGroup s).relay = s.relay ∧ (State.startGroup s).down.upFifo = s.down.upFifo
     ∧ (State.startGroup s).down.grant = s.down.grant ∧ (State.startGroup s).down.fairness = s.down.fairness
     ∧ (State.startGroup s).down.states = s.down.states ∧ (State.startGroup s).down.poll = s.down.poll
     ∧ (State.startGroup s).down.detections = s.down.detections ∧ (State.startGroup s).down.clears = s.down.clears
     ∧ (State.startGroup s).down.clearing = s.down.clearing ∧ (State.startGroup s).down.ended = s.down.ended
     ∧ (State.startGroup s).down.speed = s.down.speed ∧ (State.startGroup s).down.activity = s.down.activity
     ∧ (State.startGroup s).freeIndex = s.freeIndex ∧ (State.startGroup s).pending = s.pending := by
  and_intros <;> unfold State.startGroup <;> (try dsimp only) <;> (repeat' split) <;> first | (simp <;> done) | rfl

@[simp] theorem State.engineIdle_leaves (s : State) :
    (State.engineIdle s).inReset = s.inReset ∧ (State.engineIdle s).setup = s.setup
     ∧ (State.engineIdle s).store = s.store ∧ (State.engineIdle s).queue = s.queue
     ∧ (State.engineIdle s).engine.pointer = s.engine.pointer
     ∧ (State.engineIdle s).engine.pauseRequested = s.engine.pauseRequested
     ∧ (State.engineIdle s).engine.faultCode = s.engine.faultCode
     ∧ (State.engineIdle s).engine.faultDevice = s.engine.faultDevice ∧ (State.engineIdle s).journal = s.journal
     ∧ (State.engineIdle s).read = s.read ∧ (State.engineIdle s).forward = s.forward
     ∧ (State.engineIdle s).window = s.window ∧ (State.engineIdle s).port = s.port
     ∧ (State.engineIdle s).relay = s.relay ∧ (State.engineIdle s).down = s.down
     ∧ (State.engineIdle s).freeIndex = s.freeIndex ∧ (State.engineIdle s).pending = s.pending := by
  and_intros <;> unfold State.engineIdle <;> (try dsimp only) <;> (repeat' split) <;> first | (simp <;> done) | rfl

@[simp] theorem State.takeNext_leaves (n : NextStep) (s : State) :
    (State.takeNext n s).inReset = s.inReset ∧ (State.takeNext n s).setup = s.setup
     ∧ (State.takeNext n s).store = s.store ∧ (State.takeNext n s).queue.openGroup = s.queue.openGroup
     ∧ (State.takeNext n s).queue.lost = s.queue.lost
     ∧ (State.takeNext n s).engine.pauseRequested = s.engine.pauseRequested
     ∧ (State.takeNext n s).engine.faultCode = s.engine.faultCode
     ∧ (State.takeNext n s).engine.faultDevice = s.engine.faultDevice
     ∧ (State.takeNext n s).journal.head = s.journal.head ∧ (State.takeNext n s).journal.nextSeq = s.journal.nextSeq
     ∧ (State.takeNext n s).journal.lastSeq = s.journal.lastSeq
     ∧ (State.takeNext n s).journal.lastTag = s.journal.lastTag ∧ (State.takeNext n s).journal.scan = s.journal.scan
     ∧ (State.takeNext n s).read = s.read ∧ (State.takeNext n s).forward = s.forward
     ∧ (State.takeNext n s).window = s.window ∧ (State.takeNext n s).port = s.port
     ∧ (State.takeNext n s).relay = s.relay ∧ (State.takeNext n s).down.upFifo = s.down.upFifo
     ∧ (State.takeNext n s).down.grant = s.down.grant ∧ (State.takeNext n s).down.fairness = s.down.fairness
     ∧ (State.takeNext n s).down.states = s.down.states ∧ (State.takeNext n s).down.poll = s.down.poll
     ∧ (State.takeNext n s).down.detections = s.down.detections ∧ (State.takeNext n s).down.clears = s.down.clears
     ∧ (State.takeNext n s).down.clearing = s.down.clearing ∧ (State.takeNext n s).down.ended = s.down.ended
     ∧ (State.takeNext n s).down.speed = s.down.speed ∧ (State.takeNext n s).down.activity = s.down.activity
     ∧ (State.takeNext n s).freeIndex = s.freeIndex ∧ (State.takeNext n s).pending = s.pending := by
  and_intros <;> unfold State.takeNext <;> (try dsimp only) <;> (repeat' split) <;> first | (simp <;> done) | rfl

@[simp] theorem State.enterPaused_leaves (n : NextStep) (s : State) :
    (State.enterPaused n s).inReset = s.inReset ∧ (State.enterPaused n s).setup = s.setup
     ∧ (State.enterPaused n s).store = s.store ∧ (State.enterPaused n s).queue = s.queue
     ∧ (State.enterPaused n s).engine.pointer = s.engine.pointer
     ∧ (State.enterPaused n s).engine.pauseRequested = s.engine.pauseRequested
     ∧ (State.enterPaused n s).engine.faultCode = s.engine.faultCode
     ∧ (State.enterPaused n s).engine.faultDevice = s.engine.faultDevice ∧ (State.enterPaused n s).journal = s.journal
     ∧ (State.enterPaused n s).read = s.read ∧ (State.enterPaused n s).forward = s.forward
     ∧ (State.enterPaused n s).window = s.window ∧ (State.enterPaused n s).port = s.port
     ∧ (State.enterPaused n s).relay = s.relay ∧ (State.enterPaused n s).down = s.down
     ∧ (State.enterPaused n s).freeIndex = s.freeIndex ∧ (State.enterPaused n s).pending = s.pending := by
  and_intros <;> unfold State.enterPaused <;> (try dsimp only) <;> (repeat' split) <;> first | (simp <;> done) | rfl

@[simp] theorem State.atBoundary_leaves (n : NextStep) (s : State) :
    (State.atBoundary n s).inReset = s.inReset ∧ (State.atBoundary n s).setup = s.setup
     ∧ (State.atBoundary n s).store = s.store ∧ (State.atBoundary n s).queue.openGroup = s.queue.openGroup
     ∧ (State.atBoundary n s).queue.lost = s.queue.lost
     ∧ (State.atBoundary n s).engine.pauseRequested = s.engine.pauseRequested
     ∧ (State.atBoundary n s).engine.faultCode = s.engine.faultCode
     ∧ (State.atBoundary n s).engine.faultDevice = s.engine.faultDevice
     ∧ (State.atBoundary n s).journal.head = s.journal.head
     ∧ (State.atBoundary n s).journal.nextSeq = s.journal.nextSeq
     ∧ (State.atBoundary n s).journal.lastSeq = s.journal.lastSeq
     ∧ (State.atBoundary n s).journal.lastTag = s.journal.lastTag
     ∧ (State.atBoundary n s).journal.scan = s.journal.scan ∧ (State.atBoundary n s).read = s.read
     ∧ (State.atBoundary n s).forward = s.forward ∧ (State.atBoundary n s).window = s.window
     ∧ (State.atBoundary n s).port = s.port ∧ (State.atBoundary n s).relay = s.relay
     ∧ (State.atBoundary n s).down.upFifo = s.down.upFifo ∧ (State.atBoundary n s).down.grant = s.down.grant
     ∧ (State.atBoundary n s).down.fairness = s.down.fairness ∧ (State.atBoundary n s).down.states = s.down.states
     ∧ (State.atBoundary n s).down.poll = s.down.poll ∧ (State.atBoundary n s).down.detections = s.down.detections
     ∧ (State.atBoundary n s).down.clears = s.down.clears ∧ (State.atBoundary n s).down.clearing = s.down.clearing
     ∧ (State.atBoundary n s).down.ended = s.down.ended ∧ (State.atBoundary n s).down.speed = s.down.speed
     ∧ (State.atBoundary n s).down.activity = s.down.activity ∧ (State.atBoundary n s).freeIndex = s.freeIndex
     ∧ (State.atBoundary n s).pending = s.pending := by
  and_intros <;> unfold State.atBoundary <;> (try dsimp only) <;> (repeat' split) <;> first | (simp <;> done) | rfl

@[simp] theorem State.halt_leaves (code : FaultCode) (s : State) :
    (State.halt code s).inReset = s.inReset ∧ (State.halt code s).setup.straps = s.setup.straps
     ∧ (State.halt code s).setup.config = s.setup.config ∧ (State.halt code s).setup.reject = s.setup.reject
     ∧ (State.halt code s).setup.tables = s.setup.tables ∧ (State.halt code s).setup.reload = s.setup.reload
     ∧ (State.halt code s).setup.holding = s.setup.holding ∧ (State.halt code s).setup.loadBuffer = s.setup.loadBuffer
     ∧ (State.halt code s).setup.stale = s.setup.stale ∧ (State.halt code s).setup.attempt = s.setup.attempt
     ∧ (State.halt code s).setup.kept = s.setup.kept ∧ (State.halt code s).setup.readAttempts = s.setup.readAttempts
     ∧ (State.halt code s).store = s.store ∧ (State.halt code s).queue = s.queue
     ∧ (State.halt code s).engine.pointer = s.engine.pointer ∧ (State.halt code s).engine.attempts = s.engine.attempts
     ∧ (State.halt code s).engine.pauseRequested = s.engine.pauseRequested ∧ (State.halt code s).journal = s.journal
     ∧ (State.halt code s).read = s.read ∧ (State.halt code s).forward = s.forward
     ∧ (State.halt code s).window = s.window ∧ (State.halt code s).port.frame = s.port.frame
     ∧ (State.halt code s).port.hold = s.port.hold ∧ (State.halt code s).port.holdTimer = s.port.holdTimer
     ∧ (State.halt code s).port.idleTimer = s.port.idleTimer ∧ (State.halt code s).port.pointers = s.port.pointers
     ∧ (State.halt code s).port.answer = s.port.answer ∧ (State.halt code s).port.sent = s.port.sent
     ∧ (State.halt code s).relay = s.relay ∧ (State.halt code s).down = s.down
     ∧ (State.halt code s).freeIndex = s.freeIndex ∧ (State.halt code s).pending = s.pending := by
  and_intros <;> unfold State.halt <;> (try dsimp only) <;> (repeat' split) <;> first | (simp <;> done) | rfl

@[simp] theorem State.removeRetired_leaves (g : Group) (s : State) :
    (State.removeRetired g s).inReset = s.inReset ∧ (State.removeRetired g s).store = s.store
     ∧ (State.removeRetired g s).queue.openGroup = s.queue.openGroup
     ∧ (State.removeRetired g s).queue.lost = s.queue.lost ∧ (State.removeRetired g s).engine = s.engine
     ∧ (State.removeRetired g s).journal.nextSeq = s.journal.nextSeq
     ∧ (State.removeRetired g s).journal.scan = s.journal.scan ∧ (State.removeRetired g s).read = s.read
     ∧ (State.removeRetired g s).forward = s.forward ∧ (State.removeRetired g s).window.lastMark = s.window.lastMark
     ∧ (State.removeRetired g s).window.result = s.window.result
     ∧ (State.removeRetired g s).window.fwdFail = s.window.fwdFail
     ∧ (State.removeRetired g s).window.setupNotice = s.window.setupNotice
     ∧ (State.removeRetired g s).window.ffDevice = s.window.ffDevice
     ∧ (State.removeRetired g s).window.ffAddr = s.window.ffAddr ∧ (State.removeRetired g s).port = s.port
     ∧ (State.removeRetired g s).relay = s.relay ∧ (State.removeRetired g s).down = s.down
     ∧ (State.removeRetired g s).freeIndex = s.freeIndex ∧ (State.removeRetired g s).pending = s.pending := by
  and_intros <;> unfold State.removeRetired <;> (try dsimp only) <;> (repeat' split) <;> first | (simp <;> done) | rfl

@[simp] theorem Setup.startReading_fields (st : Setup) :
    (Setup.startReading st).straps = st.straps ∧ (Setup.startReading st).config = st.config
     ∧ (Setup.startReading st).reject = st.reject ∧ (Setup.startReading st).tables = st.tables
     ∧ (Setup.startReading st).reload = .reading ∧ (Setup.startReading st).holding = st.holding
     ∧ (Setup.startReading st).loadBuffer = st.loadBuffer ∧ (Setup.startReading st).stale = false
     ∧ (Setup.startReading st).attempt = st.attempt ∧ (Setup.startReading st).kept = st.kept
     ∧ (Setup.startReading st).readAttempts = (if st.repeatDue then st.readAttempts else 0)
     ∧ (Setup.startReading st).repeatDue = false ∧ (Setup.startReading st).phase = st.phase := by
  and_intros <;> rfl

@[simp] theorem State.requestReload_leaves (s : State) :
    (State.requestReload s).inReset = s.inReset ∧ (State.requestReload s).setup.straps = s.setup.straps
     ∧ (State.requestReload s).setup.config = s.setup.config ∧ (State.requestReload s).setup.reject = s.setup.reject
     ∧ (State.requestReload s).setup.tables = s.setup.tables ∧ (State.requestReload s).setup.holding = s.setup.holding
     ∧ (State.requestReload s).setup.loadBuffer = s.setup.loadBuffer
     ∧ (State.requestReload s).setup.attempt = s.setup.attempt ∧ (State.requestReload s).setup.kept = s.setup.kept
     ∧ (State.requestReload s).setup.phase = s.setup.phase ∧ (State.requestReload s).store = s.store
     ∧ (State.requestReload s).queue = s.queue ∧ (State.requestReload s).engine = s.engine
     ∧ (State.requestReload s).journal = s.journal ∧ (State.requestReload s).read = s.read
     ∧ (State.requestReload s).forward = s.forward ∧ (State.requestReload s).window = s.window
     ∧ (State.requestReload s).port = s.port ∧ (State.requestReload s).relay = s.relay
     ∧ (State.requestReload s).down.upFifo = s.down.upFifo ∧ (State.requestReload s).down.grant = s.down.grant
     ∧ (State.requestReload s).down.fairness = s.down.fairness ∧ (State.requestReload s).down.states = s.down.states
     ∧ (State.requestReload s).down.poll = s.down.poll ∧ (State.requestReload s).down.detections = s.down.detections
     ∧ (State.requestReload s).down.clears = s.down.clears ∧ (State.requestReload s).down.clearing = s.down.clearing
     ∧ (State.requestReload s).down.ended = s.down.ended ∧ (State.requestReload s).down.speed = s.down.speed
     ∧ (State.requestReload s).down.activity = s.down.activity ∧ (State.requestReload s).freeIndex = s.freeIndex
     ∧ (State.requestReload s).pending = s.pending := by
  and_intros <;> unfold State.requestReload <;> (try dsimp only) <;> (repeat' split) <;> first | (simp <;> done) | rfl

@[simp] theorem State.replayEnd_leaves (s : State) :
    (State.replayEnd s).inReset = s.inReset ∧ (State.replayEnd s).setup.straps = s.setup.straps
     ∧ (State.replayEnd s).setup.config = s.setup.config ∧ (State.replayEnd s).setup.reject = s.setup.reject
     ∧ (State.replayEnd s).setup.tables = s.setup.tables ∧ (State.replayEnd s).setup.holding = s.setup.holding
     ∧ (State.replayEnd s).setup.loadBuffer = s.setup.loadBuffer ∧ (State.replayEnd s).setup.attempt = s.setup.attempt
     ∧ (State.replayEnd s).setup.kept = s.setup.kept ∧ (State.replayEnd s).store = s.store
     ∧ (State.replayEnd s).queue = s.queue ∧ (State.replayEnd s).engine = s.engine
     ∧ (State.replayEnd s).journal = s.journal ∧ (State.replayEnd s).read = s.read
     ∧ (State.replayEnd s).forward = s.forward ∧ (State.replayEnd s).window = s.window
     ∧ (State.replayEnd s).port.frame = s.port.frame ∧ (State.replayEnd s).port.hold = s.port.hold
     ∧ (State.replayEnd s).port.holdTimer = s.port.holdTimer ∧ (State.replayEnd s).port.idleTimer = s.port.idleTimer
     ∧ (State.replayEnd s).port.pointers = s.port.pointers ∧ (State.replayEnd s).port.answer = s.port.answer
     ∧ (State.replayEnd s).port.sent = s.port.sent ∧ (State.replayEnd s).relay = s.relay
     ∧ (State.replayEnd s).down.upFifo = s.down.upFifo ∧ (State.replayEnd s).down.grant = s.down.grant
     ∧ (State.replayEnd s).down.fairness = s.down.fairness ∧ (State.replayEnd s).down.states = s.down.states
     ∧ (State.replayEnd s).down.poll = s.down.poll ∧ (State.replayEnd s).down.detections = s.down.detections
     ∧ (State.replayEnd s).down.clears = s.down.clears ∧ (State.replayEnd s).down.clearing = s.down.clearing
     ∧ (State.replayEnd s).down.ended = s.down.ended ∧ (State.replayEnd s).down.speed = s.down.speed
     ∧ (State.replayEnd s).down.activity = s.down.activity ∧ (State.replayEnd s).freeIndex = s.freeIndex
     ∧ (State.replayEnd s).pending = s.pending := by
  and_intros <;> unfold State.replayEnd <;> (try dsimp only) <;> (repeat' split) <;> first | (simp <;> done) | rfl

@[simp] theorem State.retire_leaves (s : State) :
    (State.retire s).inReset = s.inReset ∧ (State.retire s).store.image = s.store.image
     ∧ (State.retire s).queue.openGroup = s.queue.openGroup ∧ (State.retire s).queue.lost = s.queue.lost
     ∧ (State.retire s).engine.pauseRequested = s.engine.pauseRequested
     ∧ (State.retire s).engine.faultCode = s.engine.faultCode
     ∧ (State.retire s).engine.faultDevice = s.engine.faultDevice
     ∧ (State.retire s).journal.nextSeq = s.journal.nextSeq ∧ (State.retire s).journal.scan = s.journal.scan
     ∧ (State.retire s).read = s.read ∧ (State.retire s).forward = s.forward
     ∧ (State.retire s).window.lastMark = s.window.lastMark ∧ (State.retire s).window.result = s.window.result
     ∧ (State.retire s).window.fwdFail = s.window.fwdFail ∧ (State.retire s).window.setupNotice = s.window.setupNotice
     ∧ (State.retire s).window.ffDevice = s.window.ffDevice ∧ (State.retire s).window.ffAddr = s.window.ffAddr
     ∧ (State.retire s).port.frame = s.port.frame ∧ (State.retire s).port.hold = s.port.hold
     ∧ (State.retire s).port.holdTimer = s.port.holdTimer ∧ (State.retire s).port.idleTimer = s.port.idleTimer
     ∧ (State.retire s).port.pointers = s.port.pointers ∧ (State.retire s).port.answer = s.port.answer
     ∧ (State.retire s).port.sent = s.port.sent ∧ (State.retire s).relay = s.relay
     ∧ (State.retire s).down.upFifo = s.down.upFifo ∧ (State.retire s).down.grant = s.down.grant
     ∧ (State.retire s).down.fairness = s.down.fairness ∧ (State.retire s).down.states = s.down.states
     ∧ (State.retire s).down.poll = s.down.poll ∧ (State.retire s).down.detections = s.down.detections
     ∧ (State.retire s).down.clears = s.down.clears ∧ (State.retire s).down.clearing = s.down.clearing
     ∧ (State.retire s).down.ended = s.down.ended ∧ (State.retire s).down.speed = s.down.speed
     ∧ (State.retire s).down.activity = s.down.activity ∧ (State.retire s).freeIndex = s.freeIndex
     ∧ (State.retire s).pending = s.pending := by
  and_intros <;> unfold State.retire <;> (try dsimp only) <;> (repeat' split) <;> first | (simp <;> done) | rfl

@[simp] theorem State.writeStepDone_leaves (s : State) :
    (State.writeStepDone s).inReset = s.inReset ∧ (State.writeStepDone s).store.image = s.store.image
     ∧ (State.writeStepDone s).queue.openGroup = s.queue.openGroup ∧ (State.writeStepDone s).queue.lost = s.queue.lost
     ∧ (State.writeStepDone s).engine.pauseRequested = s.engine.pauseRequested
     ∧ (State.writeStepDone s).engine.faultCode = s.engine.faultCode
     ∧ (State.writeStepDone s).engine.faultDevice = s.engine.faultDevice
     ∧ (State.writeStepDone s).journal.nextSeq = s.journal.nextSeq
     ∧ (State.writeStepDone s).journal.scan = s.journal.scan ∧ (State.writeStepDone s).read = s.read
     ∧ (State.writeStepDone s).forward = s.forward ∧ (State.writeStepDone s).window.lastMark = s.window.lastMark
     ∧ (State.writeStepDone s).window.result = s.window.result
     ∧ (State.writeStepDone s).window.fwdFail = s.window.fwdFail
     ∧ (State.writeStepDone s).window.setupNotice = s.window.setupNotice
     ∧ (State.writeStepDone s).window.ffDevice = s.window.ffDevice
     ∧ (State.writeStepDone s).window.ffAddr = s.window.ffAddr ∧ (State.writeStepDone s).port.frame = s.port.frame
     ∧ (State.writeStepDone s).port.hold = s.port.hold ∧ (State.writeStepDone s).port.holdTimer = s.port.holdTimer
     ∧ (State.writeStepDone s).port.idleTimer = s.port.idleTimer
     ∧ (State.writeStepDone s).port.pointers = s.port.pointers ∧ (State.writeStepDone s).port.answer = s.port.answer
     ∧ (State.writeStepDone s).port.sent = s.port.sent ∧ (State.writeStepDone s).relay = s.relay
     ∧ (State.writeStepDone s).down.upFifo = s.down.upFifo ∧ (State.writeStepDone s).down.grant = s.down.grant
     ∧ (State.writeStepDone s).down.fairness = s.down.fairness ∧ (State.writeStepDone s).down.states = s.down.states
     ∧ (State.writeStepDone s).down.poll = s.down.poll ∧ (State.writeStepDone s).down.detections = s.down.detections
     ∧ (State.writeStepDone s).down.clears = s.down.clears ∧ (State.writeStepDone s).down.clearing = s.down.clearing
     ∧ (State.writeStepDone s).down.ended = s.down.ended ∧ (State.writeStepDone s).down.speed = s.down.speed
     ∧ (State.writeStepDone s).down.activity = s.down.activity ∧ (State.writeStepDone s).freeIndex = s.freeIndex
     ∧ (State.writeStepDone s).pending = s.pending := by
  and_intros <;> unfold State.writeStepDone <;> (try dsimp only) <;> (repeat' split) <;> first | (simp <;> done) | rfl

@[simp] theorem State.verifyDone_leaves (bs : List Byte) (s : State) :
    (State.verifyDone bs s).inReset = s.inReset ∧ (State.verifyDone bs s).setup.straps = s.setup.straps
     ∧ (State.verifyDone bs s).setup.config = s.setup.config ∧ (State.verifyDone bs s).setup.reject = s.setup.reject
     ∧ (State.verifyDone bs s).setup.tables = s.setup.tables ∧ (State.verifyDone bs s).setup.reload = s.setup.reload
     ∧ (State.verifyDone bs s).setup.holding = s.setup.holding
     ∧ (State.verifyDone bs s).setup.loadBuffer = s.setup.loadBuffer
     ∧ (State.verifyDone bs s).setup.stale = s.setup.stale ∧ (State.verifyDone bs s).setup.attempt = s.setup.attempt
     ∧ (State.verifyDone bs s).setup.kept = s.setup.kept
     ∧ (State.verifyDone bs s).setup.readAttempts = s.setup.readAttempts ∧ (State.verifyDone bs s).store = s.store
     ∧ (State.verifyDone bs s).queue.openGroup = s.queue.openGroup ∧ (State.verifyDone bs s).queue.lost = s.queue.lost
     ∧ (State.verifyDone bs s).engine.pauseRequested = s.engine.pauseRequested
     ∧ (State.verifyDone bs s).journal.head = s.journal.head
     ∧ (State.verifyDone bs s).journal.nextSeq = s.journal.nextSeq
     ∧ (State.verifyDone bs s).journal.lastSeq = s.journal.lastSeq
     ∧ (State.verifyDone bs s).journal.lastTag = s.journal.lastTag
     ∧ (State.verifyDone bs s).journal.scan = s.journal.scan ∧ (State.verifyDone bs s).read = s.read
     ∧ (State.verifyDone bs s).forward = s.forward ∧ (State.verifyDone bs s).window = s.window
     ∧ (State.verifyDone bs s).port.frame = s.port.frame ∧ (State.verifyDone bs s).port.hold = s.port.hold
     ∧ (State.verifyDone bs s).port.holdTimer = s.port.holdTimer
     ∧ (State.verifyDone bs s).port.idleTimer = s.port.idleTimer
     ∧ (State.verifyDone bs s).port.pointers = s.port.pointers ∧ (State.verifyDone bs s).port.answer = s.port.answer
     ∧ (State.verifyDone bs s).port.sent = s.port.sent ∧ (State.verifyDone bs s).relay = s.relay
     ∧ (State.verifyDone bs s).down.upFifo = s.down.upFifo ∧ (State.verifyDone bs s).down.grant = s.down.grant
     ∧ (State.verifyDone bs s).down.fairness = s.down.fairness ∧ (State.verifyDone bs s).down.states = s.down.states
     ∧ (State.verifyDone bs s).down.poll = s.down.poll ∧ (State.verifyDone bs s).down.detections = s.down.detections
     ∧ (State.verifyDone bs s).down.clears = s.down.clears ∧ (State.verifyDone bs s).down.clearing = s.down.clearing
     ∧ (State.verifyDone bs s).down.ended = s.down.ended ∧ (State.verifyDone bs s).down.speed = s.down.speed
     ∧ (State.verifyDone bs s).down.activity = s.down.activity ∧ (State.verifyDone bs s).freeIndex = s.freeIndex
     ∧ (State.verifyDone bs s).pending = s.pending := by
  and_intros <;> unfold State.verifyDone <;> (try dsimp only) <;> (repeat' split) <;> first | (simp <;> done) | rfl

@[simp] theorem State.countAttempt_leaves (s : State) :
    (State.countAttempt s).inReset = s.inReset ∧ (State.countAttempt s).setup = s.setup
     ∧ (State.countAttempt s).store = s.store ∧ (State.countAttempt s).queue = s.queue
     ∧ (State.countAttempt s).engine.state = s.engine.state ∧ (State.countAttempt s).engine.pointer = s.engine.pointer
     ∧ (State.countAttempt s).engine.pauseRequested = s.engine.pauseRequested
     ∧ (State.countAttempt s).engine.remembered = s.engine.remembered
     ∧ (State.countAttempt s).engine.faultCode = s.engine.faultCode
     ∧ (State.countAttempt s).engine.faultDevice = s.engine.faultDevice ∧ (State.countAttempt s).journal = s.journal
     ∧ (State.countAttempt s).read = s.read ∧ (State.countAttempt s).forward = s.forward
     ∧ (State.countAttempt s).window = s.window ∧ (State.countAttempt s).port = s.port
     ∧ (State.countAttempt s).relay = s.relay ∧ (State.countAttempt s).down = s.down
     ∧ (State.countAttempt s).freeIndex = s.freeIndex ∧ (State.countAttempt s).pending = s.pending := by
  and_intros <;> unfold State.countAttempt <;> (try dsimp only) <;> (repeat' split) <;> first | (simp <;> done) | rfl

@[simp] theorem State.repeatOrHalt_leaves (code : FaultCode) (s : State) :
    (State.repeatOrHalt code s).inReset = s.inReset ∧ (State.repeatOrHalt code s).setup.straps = s.setup.straps
     ∧ (State.repeatOrHalt code s).setup.config = s.setup.config
     ∧ (State.repeatOrHalt code s).setup.reject = s.setup.reject
     ∧ (State.repeatOrHalt code s).setup.tables = s.setup.tables
     ∧ (State.repeatOrHalt code s).setup.reload = s.setup.reload
     ∧ (State.repeatOrHalt code s).setup.holding = s.setup.holding
     ∧ (State.repeatOrHalt code s).setup.loadBuffer = s.setup.loadBuffer
     ∧ (State.repeatOrHalt code s).setup.stale = s.setup.stale
     ∧ (State.repeatOrHalt code s).setup.attempt = s.setup.attempt
     ∧ (State.repeatOrHalt code s).setup.kept = s.setup.kept
     ∧ (State.repeatOrHalt code s).setup.readAttempts = s.setup.readAttempts
     ∧ (State.repeatOrHalt code s).store = s.store ∧ (State.repeatOrHalt code s).queue = s.queue
     ∧ (State.repeatOrHalt code s).engine.pointer = s.engine.pointer
     ∧ (State.repeatOrHalt code s).engine.attempts = s.engine.attempts
     ∧ (State.repeatOrHalt code s).engine.pauseRequested = s.engine.pauseRequested
     ∧ (State.repeatOrHalt code s).journal = s.journal ∧ (State.repeatOrHalt code s).read = s.read
     ∧ (State.repeatOrHalt code s).forward = s.forward ∧ (State.repeatOrHalt code s).window = s.window
     ∧ (State.repeatOrHalt code s).port.frame = s.port.frame ∧ (State.repeatOrHalt code s).port.hold = s.port.hold
     ∧ (State.repeatOrHalt code s).port.holdTimer = s.port.holdTimer
     ∧ (State.repeatOrHalt code s).port.idleTimer = s.port.idleTimer
     ∧ (State.repeatOrHalt code s).port.pointers = s.port.pointers
     ∧ (State.repeatOrHalt code s).port.answer = s.port.answer ∧ (State.repeatOrHalt code s).port.sent = s.port.sent
     ∧ (State.repeatOrHalt code s).relay = s.relay ∧ (State.repeatOrHalt code s).down.upFifo = s.down.upFifo
     ∧ (State.repeatOrHalt code s).down.grant = s.down.grant
     ∧ (State.repeatOrHalt code s).down.fairness = s.down.fairness
     ∧ (State.repeatOrHalt code s).down.states = s.down.states ∧ (State.repeatOrHalt code s).down.poll = s.down.poll
     ∧ (State.repeatOrHalt code s).down.detections = s.down.detections
     ∧ (State.repeatOrHalt code s).down.clears = s.down.clears
     ∧ (State.repeatOrHalt code s).down.clearing = s.down.clearing
     ∧ (State.repeatOrHalt code s).down.ended = s.down.ended ∧ (State.repeatOrHalt code s).down.speed = s.down.speed
     ∧ (State.repeatOrHalt code s).down.activity = s.down.activity
     ∧ (State.repeatOrHalt code s).freeIndex = s.freeIndex ∧ (State.repeatOrHalt code s).pending = s.pending := by
  and_intros <;> unfold State.repeatOrHalt <;> (try dsimp only) <;> (repeat' split) <;> first | (simp <;> done) | rfl

end Sys2Proof.Machine
end

