-- ==== Sys2Proof/Laws/Entry.lean ====
section
/-! SUPPORT. What each operation of configuration entry leaves as it is. -/

namespace Sys2Proof.Machine

@[simp] theorem State.requestLoad_leaves (s : State) :
    (State.requestLoad s).inReset = s.inReset ∧ (State.requestLoad s).setup.straps = s.setup.straps
     ∧ (State.requestLoad s).setup.config = s.setup.config ∧ (State.requestLoad s).setup.reject = s.setup.reject
     ∧ (State.requestLoad s).setup.tables = s.setup.tables ∧ (State.requestLoad s).setup.reload = s.setup.reload
     ∧ (State.requestLoad s).setup.holding = s.setup.holding
     ∧ (State.requestLoad s).setup.loadBuffer = s.setup.loadBuffer ∧ (State.requestLoad s).setup.stale = s.setup.stale
     ∧ (State.requestLoad s).setup.attempt = s.setup.attempt ∧ (State.requestLoad s).setup.kept = s.setup.kept
     ∧ (State.requestLoad s).setup.phase = s.setup.phase ∧ (State.requestLoad s).store = s.store
     ∧ (State.requestLoad s).queue = s.queue ∧ (State.requestLoad s).engine = s.engine
     ∧ (State.requestLoad s).journal = s.journal ∧ (State.requestLoad s).read = s.read
     ∧ (State.requestLoad s).forward = s.forward ∧ (State.requestLoad s).window = s.window
     ∧ (State.requestLoad s).port = s.port ∧ (State.requestLoad s).relay = s.relay
     ∧ (State.requestLoad s).down.upFifo = s.down.upFifo ∧ (State.requestLoad s).down.grant = s.down.grant
     ∧ (State.requestLoad s).down.fairness = s.down.fairness ∧ (State.requestLoad s).down.states = s.down.states
     ∧ (State.requestLoad s).down.poll = s.down.poll ∧ (State.requestLoad s).down.detections = s.down.detections
     ∧ (State.requestLoad s).down.clears = s.down.clears ∧ (State.requestLoad s).down.clearing = s.down.clearing
     ∧ (State.requestLoad s).down.ended = s.down.ended ∧ (State.requestLoad s).down.speed = s.down.speed
     ∧ (State.requestLoad s).down.activity = s.down.activity ∧ (State.requestLoad s).freeIndex = s.freeIndex
     ∧ (State.requestLoad s).pending = s.pending := by
  and_intros <;> unfold State.requestLoad <;> (try dsimp only) <;> (repeat' split) <;> first | (simp <;> done) | rfl

@[simp] theorem State.rejectAttempt_leaves (r : Reject) (s : State) :
    (State.rejectAttempt r s).inReset = s.inReset ∧ (State.rejectAttempt r s).setup.straps = s.setup.straps
     ∧ (State.rejectAttempt r s).setup.config = s.setup.config
     ∧ (State.rejectAttempt r s).setup.tables = s.setup.tables
     ∧ (State.rejectAttempt r s).setup.reload = s.setup.reload
     ∧ (State.rejectAttempt r s).setup.holding = s.setup.holding
     ∧ (State.rejectAttempt r s).setup.stale = s.setup.stale ∧ (State.rejectAttempt r s).setup.phase = s.setup.phase
     ∧ (State.rejectAttempt r s).store = s.store ∧ (State.rejectAttempt r s).queue = s.queue
     ∧ (State.rejectAttempt r s).engine = s.engine ∧ (State.rejectAttempt r s).journal = s.journal
     ∧ (State.rejectAttempt r s).read = s.read ∧ (State.rejectAttempt r s).forward = s.forward
     ∧ (State.rejectAttempt r s).window.lastMark = s.window.lastMark
     ∧ (State.rejectAttempt r s).window.result = s.window.result
     ∧ (State.rejectAttempt r s).window.done = s.window.done
     ∧ (State.rejectAttempt r s).window.fwdFail = s.window.fwdFail
     ∧ (State.rejectAttempt r s).window.completion = s.window.completion
     ∧ (State.rejectAttempt r s).window.ffDevice = s.window.ffDevice
     ∧ (State.rejectAttempt r s).window.ffAddr = s.window.ffAddr ∧ (State.rejectAttempt r s).port = s.port
     ∧ (State.rejectAttempt r s).relay = s.relay ∧ (State.rejectAttempt r s).down.upFifo = s.down.upFifo
     ∧ (State.rejectAttempt r s).down.grant = s.down.grant ∧ (State.rejectAttempt r s).down.fairness = s.down.fairness
     ∧ (State.rejectAttempt r s).down.states = s.down.states ∧ (State.rejectAttempt r s).down.poll = s.down.poll
     ∧ (State.rejectAttempt r s).down.detections = s.down.detections
     ∧ (State.rejectAttempt r s).down.clears = s.down.clears
     ∧ (State.rejectAttempt r s).down.clearing = s.down.clearing ∧ (State.rejectAttempt r s).down.ended = s.down.ended
     ∧ (State.rejectAttempt r s).down.speed = s.down.speed ∧ (State.rejectAttempt r s).down.activity = s.down.activity
     ∧ (State.rejectAttempt r s).freeIndex = s.freeIndex ∧ (State.rejectAttempt r s).pending = s.pending := by
  and_intros <;> unfold State.rejectAttempt <;> (try dsimp only) <;> (repeat' split) <;> first | (simp <;> done) | rfl

@[simp] theorem State.fallback_leaves (r : Reject) (s : State) :
    (State.fallback r s).inReset = s.inReset ∧ (State.fallback r s).setup.straps = s.setup.straps
     ∧ (State.fallback r s).setup.reload = s.setup.reload ∧ (State.fallback r s).setup.holding = s.setup.holding
     ∧ (State.fallback r s).setup.stale = s.setup.stale
     ∧ (State.fallback r s).setup.readAttempts = s.setup.readAttempts ∧ (State.fallback r s).store = s.store
     ∧ (State.fallback r s).queue.sealed = s.queue.sealed ∧ (State.fallback r s).queue.lost = s.queue.lost
     ∧ (State.fallback r s).engine = s.engine ∧ (State.fallback r s).journal.head = s.journal.head
     ∧ (State.fallback r s).journal.nextSeq = s.journal.nextSeq
     ∧ (State.fallback r s).journal.lastSeq = s.journal.lastSeq
     ∧ (State.fallback r s).journal.lastTag = s.journal.lastTag ∧ (State.fallback r s).journal.live = s.journal.live
     ∧ (State.fallback r s).read = s.read ∧ (State.fallback r s).forward = s.forward
     ∧ (State.fallback r s).window.lastMark = s.window.lastMark ∧ (State.fallback r s).window.result = s.window.result
     ∧ (State.fallback r s).window.done = s.window.done ∧ (State.fallback r s).window.fwdFail = s.window.fwdFail
     ∧ (State.fallback r s).window.completion = s.window.completion
     ∧ (State.fallback r s).window.ffDevice = s.window.ffDevice ∧ (State.fallback r s).window.ffAddr = s.window.ffAddr
     ∧ (State.fallback r s).port.frame = s.port.frame ∧ (State.fallback r s).port.hold = s.port.hold
     ∧ (State.fallback r s).port.holdTimer = s.port.holdTimer ∧ (State.fallback r s).port.idleTimer = s.port.idleTimer
     ∧ (State.fallback r s).port.answer = s.port.answer ∧ (State.fallback r s).port.sent = s.port.sent
     ∧ (State.fallback r s).relay = s.relay ∧ (State.fallback r s).down.upFifo = s.down.upFifo
     ∧ (State.fallback r s).down.intReqs = s.down.intReqs ∧ (State.fallback r s).down.grant = s.down.grant
     ∧ (State.fallback r s).down.fairness = s.down.fairness ∧ (State.fallback r s).down.poll = s.down.poll
     ∧ (State.fallback r s).down.detections = s.down.detections ∧ (State.fallback r s).down.clears = s.down.clears
     ∧ (State.fallback r s).down.clearing = s.down.clearing ∧ (State.fallback r s).down.ended = s.down.ended
     ∧ (State.fallback r s).down.speed = s.down.speed ∧ (State.fallback r s).down.activity = s.down.activity
     ∧ (State.fallback r s).freeIndex = s.freeIndex ∧ (State.fallback r s).pending = s.pending := by
  and_intros <;> unfold State.fallback <;> (try dsimp only) <;> (repeat' split) <;> first | (simp <;> done) | rfl

@[simp] theorem State.rejectReload_leaves (r : Reject) (s : State) :
    (State.rejectReload r s).inReset = s.inReset ∧ (State.rejectReload r s).setup.straps = s.setup.straps
     ∧ (State.rejectReload r s).setup.config = s.setup.config ∧ (State.rejectReload r s).setup.tables = s.setup.tables
     ∧ (State.rejectReload r s).setup.loadBuffer = s.setup.loadBuffer
     ∧ (State.rejectReload r s).setup.attempt = s.setup.attempt ∧ (State.rejectReload r s).setup.kept = s.setup.kept
     ∧ (State.rejectReload r s).setup.readAttempts = s.setup.readAttempts ∧ (State.rejectReload r s).store = s.store
     ∧ (State.rejectReload r s).queue = s.queue ∧ (State.rejectReload r s).engine = s.engine
     ∧ (State.rejectReload r s).journal = s.journal ∧ (State.rejectReload r s).read = s.read
     ∧ (State.rejectReload r s).forward = s.forward ∧ (State.rejectReload r s).window.lastMark = s.window.lastMark
     ∧ (State.rejectReload r s).window.result = s.window.result ∧ (State.rejectReload r s).window.done = s.window.done
     ∧ (State.rejectReload r s).window.fwdFail = s.window.fwdFail
     ∧ (State.rejectReload r s).window.completion = s.window.completion
     ∧ (State.rejectReload r s).window.ffDevice = s.window.ffDevice
     ∧ (State.rejectReload r s).window.ffAddr = s.window.ffAddr ∧ (State.rejectReload r s).port.frame = s.port.frame
     ∧ (State.rejectReload r s).port.hold = s.port.hold ∧ (State.rejectReload r s).port.holdTimer = s.port.holdTimer
     ∧ (State.rejectReload r s).port.idleTimer = s.port.idleTimer
     ∧ (State.rejectReload r s).port.pointers = s.port.pointers ∧ (State.rejectReload r s).port.answer = s.port.answer
     ∧ (State.rejectReload r s).port.sent = s.port.sent ∧ (State.rejectReload r s).relay = s.relay
     ∧ (State.rejectReload r s).down = s.down ∧ (State.rejectReload r s).freeIndex = s.freeIndex
     ∧ (State.rejectReload r s).pending = s.pending := by
  and_intros <;> unfold State.rejectReload <;> (try dsimp only) <;> (repeat' split) <;> first | (simp <;> done) | rfl

@[simp] theorem State.staleReadEnded_leaves (s : State) :
    (State.staleReadEnded s).inReset = s.inReset ∧ (State.staleReadEnded s).setup.straps = s.setup.straps
     ∧ (State.staleReadEnded s).setup.config = s.setup.config ∧ (State.staleReadEnded s).setup.reject = s.setup.reject
     ∧ (State.staleReadEnded s).setup.tables = s.setup.tables
     ∧ (State.staleReadEnded s).setup.loadBuffer = s.setup.loadBuffer
     ∧ (State.staleReadEnded s).setup.attempt = s.setup.attempt ∧ (State.staleReadEnded s).setup.kept = s.setup.kept
     ∧ (State.staleReadEnded s).setup.readAttempts = s.setup.readAttempts
     ∧ (State.staleReadEnded s).setup.phase = s.setup.phase ∧ (State.staleReadEnded s).store = s.store
     ∧ (State.staleReadEnded s).queue = s.queue ∧ (State.staleReadEnded s).engine = s.engine
     ∧ (State.staleReadEnded s).journal = s.journal ∧ (State.staleReadEnded s).read = s.read
     ∧ (State.staleReadEnded s).forward = s.forward ∧ (State.staleReadEnded s).window = s.window
     ∧ (State.staleReadEnded s).port = s.port ∧ (State.staleReadEnded s).relay = s.relay
     ∧ (State.staleReadEnded s).down = s.down ∧ (State.staleReadEnded s).freeIndex = s.freeIndex
     ∧ (State.staleReadEnded s).pending = s.pending := by
  and_intros <;> unfold State.staleReadEnded <;> (try dsimp only) <;> (repeat' split) <;> first | (simp <;> done) | rfl

@[simp] theorem State.loadFailed_leaves (r : Reject) (s : State) :
    (State.loadFailed r s).inReset = s.inReset ∧ (State.loadFailed r s).setup.straps = s.setup.straps
     ∧ (State.loadFailed r s).store = s.store ∧ (State.loadFailed r s).queue.sealed = s.queue.sealed
     ∧ (State.loadFailed r s).queue.lost = s.queue.lost ∧ (State.loadFailed r s).engine = s.engine
     ∧ (State.loadFailed r s).journal.head = s.journal.head
     ∧ (State.loadFailed r s).journal.nextSeq = s.journal.nextSeq
     ∧ (State.loadFailed r s).journal.lastSeq = s.journal.lastSeq
     ∧ (State.loadFailed r s).journal.lastTag = s.journal.lastTag
     ∧ (State.loadFailed r s).journal.live = s.journal.live ∧ (State.loadFailed r s).read = s.read
     ∧ (State.loadFailed r s).forward = s.forward ∧ (State.loadFailed r s).window.lastMark = s.window.lastMark
     ∧ (State.loadFailed r s).window.result = s.window.result ∧ (State.loadFailed r s).window.done = s.window.done
     ∧ (State.loadFailed r s).window.fwdFail = s.window.fwdFail
     ∧ (State.loadFailed r s).window.completion = s.window.completion
     ∧ (State.loadFailed r s).window.ffDevice = s.window.ffDevice
     ∧ (State.loadFailed r s).window.ffAddr = s.window.ffAddr ∧ (State.loadFailed r s).port.frame = s.port.frame
     ∧ (State.loadFailed r s).port.hold = s.port.hold ∧ (State.loadFailed r s).port.holdTimer = s.port.holdTimer
     ∧ (State.loadFailed r s).port.idleTimer = s.port.idleTimer ∧ (State.loadFailed r s).port.answer = s.port.answer
     ∧ (State.loadFailed r s).port.sent = s.port.sent ∧ (State.loadFailed r s).relay = s.relay
     ∧ (State.loadFailed r s).down.upFifo = s.down.upFifo ∧ (State.loadFailed r s).down.grant = s.down.grant
     ∧ (State.loadFailed r s).down.fairness = s.down.fairness ∧ (State.loadFailed r s).down.poll = s.down.poll
     ∧ (State.loadFailed r s).down.detections = s.down.detections ∧ (State.loadFailed r s).down.clears = s.down.clears
     ∧ (State.loadFailed r s).down.clearing = s.down.clearing ∧ (State.loadFailed r s).down.ended = s.down.ended
     ∧ (State.loadFailed r s).down.speed = s.down.speed ∧ (State.loadFailed r s).down.activity = s.down.activity
     ∧ (State.loadFailed r s).freeIndex = s.freeIndex ∧ (State.loadFailed r s).pending = s.pending := by
  and_intros <;> unfold State.loadFailed <;> (try dsimp only) <;> (repeat' split) <;> first | (simp <;> done) | rfl

@[simp] theorem State.catchFrame_leaves (s : State) :
    (State.catchFrame s).inReset = s.inReset ∧ (State.catchFrame s).setup = s.setup
     ∧ (State.catchFrame s).store = s.store ∧ (State.catchFrame s).queue = s.queue
     ∧ (State.catchFrame s).engine = s.engine ∧ (State.catchFrame s).journal = s.journal
     ∧ (State.catchFrame s).read.dev = s.read.dev ∧ (State.catchFrame s).read.snapshot = s.read.snapshot
     ∧ (State.catchFrame s).forward = s.forward ∧ (State.catchFrame s).window = s.window
     ∧ (State.catchFrame s).port.gate = s.port.gate ∧ (State.catchFrame s).port.pointers = s.port.pointers
     ∧ (State.catchFrame s).port.sent = s.port.sent ∧ (State.catchFrame s).relay = s.relay
     ∧ (State.catchFrame s).down.intReqs = s.down.intReqs ∧ (State.catchFrame s).down.grant = s.down.grant
     ∧ (State.catchFrame s).down.fairness = s.down.fairness ∧ (State.catchFrame s).down.states = s.down.states
     ∧ (State.catchFrame s).down.poll = s.down.poll ∧ (State.catchFrame s).down.detections = s.down.detections
     ∧ (State.catchFrame s).down.clears = s.down.clears ∧ (State.catchFrame s).down.clearing = s.down.clearing
     ∧ (State.catchFrame s).down.ended = s.down.ended ∧ (State.catchFrame s).down.speed = s.down.speed
     ∧ (State.catchFrame s).down.activity = s.down.activity ∧ (State.catchFrame s).freeIndex = s.freeIndex
     ∧ (State.catchFrame s).pending = s.pending := by
  and_intros <;> unfold State.catchFrame <;> (try dsimp only) <;> (repeat' split) <;> first | (simp <;> done) | rfl

@[simp] theorem State.dropRelay_leaves (s : State) :
    (State.dropRelay s).inReset = s.inReset ∧ (State.dropRelay s).setup = s.setup
     ∧ (State.dropRelay s).store = s.store ∧ (State.dropRelay s).queue = s.queue
     ∧ (State.dropRelay s).engine = s.engine ∧ (State.dropRelay s).journal = s.journal
     ∧ (State.dropRelay s).read = s.read ∧ (State.dropRelay s).forward = s.forward
     ∧ (State.dropRelay s).window = s.window ∧ (State.dropRelay s).port = s.port ∧ (State.dropRelay s).down = s.down
     ∧ (State.dropRelay s).freeIndex = s.freeIndex ∧ (State.dropRelay s).pending = s.pending := by
  and_intros <;> unfold State.dropRelay <;> (try dsimp only) <;> (repeat' split) <;> first | (simp <;> done) | rfl

@[simp] theorem State.startScan_leaves (s : State) :
    (State.startScan s).inReset = s.inReset ∧ (State.startScan s).setup = s.setup
     ∧ (State.startScan s).store = s.store ∧ (State.startScan s).queue = s.queue
     ∧ (State.startScan s).engine = s.engine ∧ (State.startScan s).journal.head = s.journal.head
     ∧ (State.startScan s).journal.nextSeq = s.journal.nextSeq
     ∧ (State.startScan s).journal.lastSeq = s.journal.lastSeq
     ∧ (State.startScan s).journal.lastTag = s.journal.lastTag ∧ (State.startScan s).journal.live = s.journal.live
     ∧ (State.startScan s).read = s.read ∧ (State.startScan s).forward = s.forward
     ∧ (State.startScan s).window = s.window ∧ (State.startScan s).port = s.port ∧ (State.startScan s).relay = s.relay
     ∧ (State.startScan s).down.upFifo = s.down.upFifo ∧ (State.startScan s).down.grant = s.down.grant
     ∧ (State.startScan s).down.fairness = s.down.fairness ∧ (State.startScan s).down.states = s.down.states
     ∧ (State.startScan s).down.poll = s.down.poll ∧ (State.startScan s).down.detections = s.down.detections
     ∧ (State.startScan s).down.clears = s.down.clears ∧ (State.startScan s).down.clearing = s.down.clearing
     ∧ (State.startScan s).down.ended = s.down.ended ∧ (State.startScan s).down.speed = s.down.speed
     ∧ (State.startScan s).down.activity = s.down.activity ∧ (State.startScan s).freeIndex = s.freeIndex
     ∧ (State.startScan s).pending = s.pending := by
  and_intros <;> unfold State.startScan <;> (try dsimp only) <;> (repeat' split) <;> first | (simp <;> done) | rfl

@[simp] theorem State.acceptLoad_leaves (bs : List Byte) (s : State) :
    (State.acceptLoad bs s).inReset = s.inReset ∧ (State.acceptLoad bs s).setup.straps = s.setup.straps
     ∧ (State.acceptLoad bs s).setup.reload = s.setup.reload ∧ (State.acceptLoad bs s).setup.holding = s.setup.holding
     ∧ (State.acceptLoad bs s).setup.stale = s.setup.stale
     ∧ (State.acceptLoad bs s).setup.readAttempts = s.setup.readAttempts ∧ (State.acceptLoad bs s).store = s.store
     ∧ (State.acceptLoad bs s).queue.sealed = s.queue.sealed ∧ (State.acceptLoad bs s).queue.lost = s.queue.lost
     ∧ (State.acceptLoad bs s).engine.pointer = s.engine.pointer
     ∧ (State.acceptLoad bs s).engine.attempts = s.engine.attempts
     ∧ (State.acceptLoad bs s).engine.faultCode = s.engine.faultCode
     ∧ (State.acceptLoad bs s).engine.faultDevice = s.engine.faultDevice
     ∧ (State.acceptLoad bs s).journal.head = s.journal.head
     ∧ (State.acceptLoad bs s).journal.nextSeq = s.journal.nextSeq
     ∧ (State.acceptLoad bs s).journal.lastSeq = s.journal.lastSeq
     ∧ (State.acceptLoad bs s).journal.lastTag = s.journal.lastTag
     ∧ (State.acceptLoad bs s).journal.live = s.journal.live ∧ (State.acceptLoad bs s).read.dev = s.read.dev
     ∧ (State.acceptLoad bs s).read.snapshot = s.read.snapshot ∧ (State.acceptLoad bs s).forward = s.forward
     ∧ (State.acceptLoad bs s).window = s.window ∧ (State.acceptLoad bs s).port.sent = s.port.sent
     ∧ (State.acceptLoad bs s).down.grant = s.down.grant ∧ (State.acceptLoad bs s).down.fairness = s.down.fairness
     ∧ (State.acceptLoad bs s).down.poll = s.down.poll ∧ (State.acceptLoad bs s).down.detections = s.down.detections
     ∧ (State.acceptLoad bs s).down.clears = s.down.clears ∧ (State.acceptLoad bs s).down.clearing = s.down.clearing
     ∧ (State.acceptLoad bs s).down.ended = s.down.ended ∧ (State.acceptLoad bs s).down.speed = s.down.speed
     ∧ (State.acceptLoad bs s).down.activity = s.down.activity ∧ (State.acceptLoad bs s).freeIndex = s.freeIndex
     ∧ (State.acceptLoad bs s).pending = s.pending := by
  and_intros <;> unfold State.acceptLoad <;> (try dsimp only) <;> (repeat' split) <;> first | (simp <;> done) | rfl

@[simp] theorem State.loadRead_leaves (bs : List Byte) (s : State) :
    (State.loadRead bs s).inReset = s.inReset ∧ (State.loadRead bs s).setup.straps = s.setup.straps
     ∧ (State.loadRead bs s).store = s.store ∧ (State.loadRead bs s).queue.sealed = s.queue.sealed
     ∧ (State.loadRead bs s).queue.lost = s.queue.lost ∧ (State.loadRead bs s).engine.pointer = s.engine.pointer
     ∧ (State.loadRead bs s).engine.attempts = s.engine.attempts
     ∧ (State.loadRead bs s).engine.faultCode = s.engine.faultCode
     ∧ (State.loadRead bs s).engine.faultDevice = s.engine.faultDevice
     ∧ (State.loadRead bs s).journal.head = s.journal.head ∧ (State.loadRead bs s).journal.nextSeq = s.journal.nextSeq
     ∧ (State.loadRead bs s).journal.lastSeq = s.journal.lastSeq
     ∧ (State.loadRead bs s).journal.lastTag = s.journal.lastTag ∧ (State.loadRead bs s).journal.live = s.journal.live
     ∧ (State.loadRead bs s).read.dev = s.read.dev ∧ (State.loadRead bs s).read.snapshot = s.read.snapshot
     ∧ (State.loadRead bs s).forward = s.forward ∧ (State.loadRead bs s).window.lastMark = s.window.lastMark
     ∧ (State.loadRead bs s).window.result = s.window.result ∧ (State.loadRead bs s).window.done = s.window.done
     ∧ (State.loadRead bs s).window.fwdFail = s.window.fwdFail
     ∧ (State.loadRead bs s).window.completion = s.window.completion
     ∧ (State.loadRead bs s).window.ffDevice = s.window.ffDevice
     ∧ (State.loadRead bs s).window.ffAddr = s.window.ffAddr ∧ (State.loadRead bs s).port.sent = s.port.sent
     ∧ (State.loadRead bs s).down.grant = s.down.grant ∧ (State.loadRead bs s).down.fairness = s.down.fairness
     ∧ (State.loadRead bs s).down.poll = s.down.poll ∧ (State.loadRead bs s).down.detections = s.down.detections
     ∧ (State.loadRead bs s).down.clears = s.down.clears ∧ (State.loadRead bs s).down.clearing = s.down.clearing
     ∧ (State.loadRead bs s).down.ended = s.down.ended ∧ (State.loadRead bs s).down.speed = s.down.speed
     ∧ (State.loadRead bs s).down.activity = s.down.activity ∧ (State.loadRead bs s).freeIndex = s.freeIndex
     ∧ (State.loadRead bs s).pending = s.pending := by
  and_intros <;> unfold State.loadRead <;> (try dsimp only) <;> (repeat' split) <;> first | (simp <;> done) | rfl

theorem State.stepWaits_iff {s : State} : s.stepWaits = true ↔ .engine ∈ s.down.intReqs := by simp [State.stepWaits]

@[simp] theorem State.updSetup_stepWaits (f : Setup → Setup) (s : State) : (s.updSetup f).stepWaits = s.stepWaits := rfl

@[simp] theorem Setup.holdRepeat_fields (st : Setup) :
    (Setup.holdRepeat st).straps = st.straps ∧ (Setup.holdRepeat st).config = st.config
     ∧ (Setup.holdRepeat st).reject = st.reject ∧ (Setup.holdRepeat st).tables = st.tables
     ∧ (Setup.holdRepeat st).reload = .waitRead ∧ (Setup.holdRepeat st).holding = st.holding
     ∧ (Setup.holdRepeat st).loadBuffer = st.loadBuffer ∧ (Setup.holdRepeat st).stale = st.stale
     ∧ (Setup.holdRepeat st).attempt = st.attempt ∧ (Setup.holdRepeat st).kept = st.kept
     ∧ (Setup.holdRepeat st).readAttempts = st.readAttempts ∧ (Setup.holdRepeat st).repeatDue = true
     ∧ (Setup.holdRepeat st).phase = st.phase := by
  and_intros <;> rfl

/-- A refused reload read leaves the setup unit in READING only where no engine step waits, and its repeat is then the
last of the internal requests: no step is granted before it (R8, R150, R170). -/
theorem State.setupReadRefused_reading {s : State} (hc : s.setup.config = .configured)
    (h : s.setupReadRefused.setup.reload = .reading) :
    s.stepWaits = false ∧ s.setupReadRefused.down.intReqs = s.down.intReqs ++ [.setupRead] := by
  unfold State.setupReadRefused at h ⊢
  dsimp only at h ⊢
  split at h
  · rename_i hlt
    split at h
    · simp at h
    · rename_i hw
      have hr : s.setup.reload = .reading := by simpa [State.placeInternal, State.updDown, State.updSetup] using h
      have hs : s.stepWaits = false := by simpa [hr] using hw
      simp only [hlt, hw, if_true, if_false]
      exact ⟨hs, rfl⟩
  · unfold State.loadFailed State.rejectReload State.staleReadEnded at h
    simp only [State.updSetup_setup, hc] at h
    (repeat' split at h) <;> simp at h

@[simp] theorem State.setupReadRefused_leaves (s : State) :
    (State.setupReadRefused s).inReset = s.inReset ∧ (State.setupReadRefused s).setup.straps = s.setup.straps
     ∧ (State.setupReadRefused s).store = s.store ∧ (State.setupReadRefused s).queue.sealed = s.queue.sealed
     ∧ (State.setupReadRefused s).queue.lost = s.queue.lost ∧ (State.setupReadRefused s).engine = s.engine
     ∧ (State.setupReadRefused s).journal.head = s.journal.head
     ∧ (State.setupReadRefused s).journal.nextSeq = s.journal.nextSeq
     ∧ (State.setupReadRefused s).journal.lastSeq = s.journal.lastSeq
     ∧ (State.setupReadRefused s).journal.lastTag = s.journal.lastTag
     ∧ (State.setupReadRefused s).journal.live = s.journal.live ∧ (State.setupReadRefused s).read = s.read
     ∧ (State.setupReadRefused s).forward = s.forward ∧ (State.setupReadRefused s).window.lastMark = s.window.lastMark
     ∧ (State.setupReadRefused s).window.result = s.window.result
     ∧ (State.setupReadRefused s).window.done = s.window.done
     ∧ (State.setupReadRefused s).window.fwdFail = s.window.fwdFail
     ∧ (State.setupReadRefused s).window.completion = s.window.completion
     ∧ (State.setupReadRefused s).window.ffDevice = s.window.ffDevice
     ∧ (State.setupReadRefused s).window.ffAddr = s.window.ffAddr
     ∧ (State.setupReadRefused s).port.frame = s.port.frame ∧ (State.setupReadRefused s).port.hold = s.port.hold
     ∧ (State.setupReadRefused s).port.holdTimer = s.port.holdTimer
     ∧ (State.setupReadRefused s).port.idleTimer = s.port.idleTimer
     ∧ (State.setupReadRefused s).port.answer = s.port.answer ∧ (State.setupReadRefused s).port.sent = s.port.sent
     ∧ (State.setupReadRefused s).relay = s.relay ∧ (State.setupReadRefused s).down.upFifo = s.down.upFifo
     ∧ (State.setupReadRefused s).down.grant = s.down.grant
     ∧ (State.setupReadRefused s).down.fairness = s.down.fairness ∧ (State.setupReadRefused s).down.poll = s.down.poll
     ∧ (State.setupReadRefused s).down.detections = s.down.detections
     ∧ (State.setupReadRefused s).down.clears = s.down.clears
     ∧ (State.setupReadRefused s).down.clearing = s.down.clearing
     ∧ (State.setupReadRefused s).down.ended = s.down.ended ∧ (State.setupReadRefused s).down.speed = s.down.speed
     ∧ (State.setupReadRefused s).down.activity = s.down.activity ∧ (State.setupReadRefused s).freeIndex = s.freeIndex
     ∧ (State.setupReadRefused s).pending = s.pending := by
  and_intros <;> unfold State.setupReadRefused <;> (try dsimp only) <;> (repeat' split) <;> first | (simp <;> done) | rfl

@[simp] theorem State.scanFailed_leaves (s : State) :
    (State.scanFailed s).inReset = s.inReset ∧ (State.scanFailed s).setup.straps = s.setup.straps
     ∧ (State.scanFailed s).setup.reload = s.setup.reload ∧ (State.scanFailed s).setup.holding = s.setup.holding
     ∧ (State.scanFailed s).setup.stale = s.setup.stale
     ∧ (State.scanFailed s).setup.readAttempts = s.setup.readAttempts ∧ (State.scanFailed s).store = s.store
     ∧ (State.scanFailed s).queue.sealed = s.queue.sealed ∧ (State.scanFailed s).queue.lost = s.queue.lost
     ∧ (State.scanFailed s).engine = s.engine ∧ (State.scanFailed s).journal.head = s.journal.head
     ∧ (State.scanFailed s).journal.nextSeq = s.journal.nextSeq
     ∧ (State.scanFailed s).journal.lastSeq = s.journal.lastSeq
     ∧ (State.scanFailed s).journal.lastTag = s.journal.lastTag ∧ (State.scanFailed s).journal.live = s.journal.live
     ∧ (State.scanFailed s).read = s.read ∧ (State.scanFailed s).forward = s.forward
     ∧ (State.scanFailed s).window.lastMark = s.window.lastMark ∧ (State.scanFailed s).window.result = s.window.result
     ∧ (State.scanFailed s).window.done = s.window.done ∧ (State.scanFailed s).window.fwdFail = s.window.fwdFail
     ∧ (State.scanFailed s).window.completion = s.window.completion
     ∧ (State.scanFailed s).window.ffDevice = s.window.ffDevice ∧ (State.scanFailed s).window.ffAddr = s.window.ffAddr
     ∧ (State.scanFailed s).port.frame = s.port.frame ∧ (State.scanFailed s).port.hold = s.port.hold
     ∧ (State.scanFailed s).port.holdTimer = s.port.holdTimer ∧ (State.scanFailed s).port.idleTimer = s.port.idleTimer
     ∧ (State.scanFailed s).port.answer = s.port.answer ∧ (State.scanFailed s).port.sent = s.port.sent
     ∧ (State.scanFailed s).relay = s.relay ∧ (State.scanFailed s).down.upFifo = s.down.upFifo
     ∧ (State.scanFailed s).down.intReqs = s.down.intReqs ∧ (State.scanFailed s).down.grant = s.down.grant
     ∧ (State.scanFailed s).down.fairness = s.down.fairness ∧ (State.scanFailed s).down.poll = s.down.poll
     ∧ (State.scanFailed s).down.detections = s.down.detections ∧ (State.scanFailed s).down.clears = s.down.clears
     ∧ (State.scanFailed s).down.clearing = s.down.clearing ∧ (State.scanFailed s).down.ended = s.down.ended
     ∧ (State.scanFailed s).down.speed = s.down.speed ∧ (State.scanFailed s).down.activity = s.down.activity
     ∧ (State.scanFailed s).freeIndex = s.freeIndex ∧ (State.scanFailed s).pending = s.pending := by
  and_intros <;> unfold State.scanFailed <;> (try dsimp only) <;> (repeat' split) <;> first | (simp <;> done) | rfl

@[simp] theorem State.scanReadRefused_leaves (s : State) :
    (State.scanReadRefused s).inReset = s.inReset ∧ (State.scanReadRefused s).setup.straps = s.setup.straps
     ∧ (State.scanReadRefused s).setup.reload = s.setup.reload
     ∧ (State.scanReadRefused s).setup.holding = s.setup.holding
     ∧ (State.scanReadRefused s).setup.stale = s.setup.stale
     ∧ (State.scanReadRefused s).setup.readAttempts = s.setup.readAttempts ∧ (State.scanReadRefused s).store = s.store
     ∧ (State.scanReadRefused s).queue.sealed = s.queue.sealed ∧ (State.scanReadRefused s).queue.lost = s.queue.lost
     ∧ (State.scanReadRefused s).engine = s.engine ∧ (State.scanReadRefused s).journal.head = s.journal.head
     ∧ (State.scanReadRefused s).journal.nextSeq = s.journal.nextSeq
     ∧ (State.scanReadRefused s).journal.lastSeq = s.journal.lastSeq
     ∧ (State.scanReadRefused s).journal.lastTag = s.journal.lastTag
     ∧ (State.scanReadRefused s).journal.live = s.journal.live ∧ (State.scanReadRefused s).read = s.read
     ∧ (State.scanReadRefused s).forward = s.forward ∧ (State.scanReadRefused s).window.lastMark = s.window.lastMark
     ∧ (State.scanReadRefused s).window.result = s.window.result
     ∧ (State.scanReadRefused s).window.done = s.window.done
     ∧ (State.scanReadRefused s).window.fwdFail = s.window.fwdFail
     ∧ (State.scanReadRefused s).window.completion = s.window.completion
     ∧ (State.scanReadRefused s).window.ffDevice = s.window.ffDevice
     ∧ (State.scanReadRefused s).window.ffAddr = s.window.ffAddr ∧ (State.scanReadRefused s).port.frame = s.port.frame
     ∧ (State.scanReadRefused s).port.hold = s.port.hold ∧ (State.scanReadRefused s).port.holdTimer = s.port.holdTimer
     ∧ (State.scanReadRefused s).port.idleTimer = s.port.idleTimer
     ∧ (State.scanReadRefused s).port.answer = s.port.answer ∧ (State.scanReadRefused s).port.sent = s.port.sent
     ∧ (State.scanReadRefused s).relay = s.relay ∧ (State.scanReadRefused s).down.upFifo = s.down.upFifo
     ∧ (State.scanReadRefused s).down.grant = s.down.grant ∧ (State.scanReadRefused s).down.fairness = s.down.fairness
     ∧ (State.scanReadRefused s).down.poll = s.down.poll
     ∧ (State.scanReadRefused s).down.detections = s.down.detections
     ∧ (State.scanReadRefused s).down.clears = s.down.clears
     ∧ (State.scanReadRefused s).down.clearing = s.down.clearing ∧ (State.scanReadRefused s).down.ended = s.down.ended
     ∧ (State.scanReadRefused s).down.speed = s.down.speed ∧ (State.scanReadRefused s).down.activity = s.down.activity
     ∧ (State.scanReadRefused s).freeIndex = s.freeIndex ∧ (State.scanReadRefused s).pending = s.pending := by
  and_intros <;> unfold State.scanReadRefused <;> (try dsimp only) <;> (repeat' split) <;> first | (simp <;> done) | rfl

@[simp] theorem State.finishScan_leaves (cs : List Candidate) (s : State) :
    (State.finishScan cs s).inReset = s.inReset ∧ (State.finishScan cs s).setup.straps = s.setup.straps
     ∧ (State.finishScan cs s).setup.reload = s.setup.reload ∧ (State.finishScan cs s).setup.holding = s.setup.holding
     ∧ (State.finishScan cs s).setup.stale = s.setup.stale
     ∧ (State.finishScan cs s).setup.readAttempts = s.setup.readAttempts
     ∧ (State.finishScan cs s).store.image = s.store.image ∧ (State.finishScan cs s).queue.lost = s.queue.lost
     ∧ (State.finishScan cs s).engine.pauseRequested = s.engine.pauseRequested
     ∧ (State.finishScan cs s).engine.faultCode = s.engine.faultCode
     ∧ (State.finishScan cs s).engine.faultDevice = s.engine.faultDevice ∧ (State.finishScan cs s).read = s.read
     ∧ (State.finishScan cs s).forward = s.forward ∧ (State.finishScan cs s).window.lastMark = s.window.lastMark
     ∧ (State.finishScan cs s).window.result = s.window.result ∧ (State.finishScan cs s).window.done = s.window.done
     ∧ (State.finishScan cs s).window.fwdFail = s.window.fwdFail
     ∧ (State.finishScan cs s).window.completion = s.window.completion
     ∧ (State.finishScan cs s).window.ffDevice = s.window.ffDevice
     ∧ (State.finishScan cs s).window.ffAddr = s.window.ffAddr ∧ (State.finishScan cs s).port.frame = s.port.frame
     ∧ (State.finishScan cs s).port.hold = s.port.hold ∧ (State.finishScan cs s).port.holdTimer = s.port.holdTimer
     ∧ (State.finishScan cs s).port.idleTimer = s.port.idleTimer ∧ (State.finishScan cs s).port.answer = s.port.answer
     ∧ (State.finishScan cs s).port.sent = s.port.sent ∧ (State.finishScan cs s).relay = s.relay
     ∧ (State.finishScan cs s).down.upFifo = s.down.upFifo ∧ (State.finishScan cs s).down.grant = s.down.grant
     ∧ (State.finishScan cs s).down.fairness = s.down.fairness ∧ (State.finishScan cs s).down.poll = s.down.poll
     ∧ (State.finishScan cs s).down.detections = s.down.detections
     ∧ (State.finishScan cs s).down.clears = s.down.clears ∧ (State.finishScan cs s).down.clearing = s.down.clearing
     ∧ (State.finishScan cs s).down.ended = s.down.ended ∧ (State.finishScan cs s).down.speed = s.down.speed
     ∧ (State.finishScan cs s).down.activity = s.down.activity ∧ (State.finishScan cs s).freeIndex = s.freeIndex
     ∧ (State.finishScan cs s).pending = s.pending := by
  and_intros <;> unfold State.finishScan <;> (try dsimp only) <;> (repeat' split) <;> first | (simp <;> done) | rfl

@[simp] theorem State.scanRecords_leaves (cs : List Candidate) (s : State) :
    (State.scanRecords cs s).inReset = s.inReset ∧ (State.scanRecords cs s).setup.straps = s.setup.straps
     ∧ (State.scanRecords cs s).setup.reload = s.setup.reload
     ∧ (State.scanRecords cs s).setup.holding = s.setup.holding ∧ (State.scanRecords cs s).setup.stale = s.setup.stale
     ∧ (State.scanRecords cs s).setup.readAttempts = s.setup.readAttempts
     ∧ (State.scanRecords cs s).store.image = s.store.image ∧ (State.scanRecords cs s).queue.lost = s.queue.lost
     ∧ (State.scanRecords cs s).engine.pauseRequested = s.engine.pauseRequested
     ∧ (State.scanRecords cs s).engine.faultCode = s.engine.faultCode
     ∧ (State.scanRecords cs s).engine.faultDevice = s.engine.faultDevice ∧ (State.scanRecords cs s).read = s.read
     ∧ (State.scanRecords cs s).forward = s.forward ∧ (State.scanRecords cs s).window.lastMark = s.window.lastMark
     ∧ (State.scanRecords cs s).window.result = s.window.result ∧ (State.scanRecords cs s).window.done = s.window.done
     ∧ (State.scanRecords cs s).window.fwdFail = s.window.fwdFail
     ∧ (State.scanRecords cs s).window.completion = s.window.completion
     ∧ (State.scanRecords cs s).window.ffDevice = s.window.ffDevice
     ∧ (State.scanRecords cs s).window.ffAddr = s.window.ffAddr ∧ (State.scanRecords cs s).port.frame = s.port.frame
     ∧ (State.scanRecords cs s).port.hold = s.port.hold ∧ (State.scanRecords cs s).port.holdTimer = s.port.holdTimer
     ∧ (State.scanRecords cs s).port.idleTimer = s.port.idleTimer
     ∧ (State.scanRecords cs s).port.answer = s.port.answer ∧ (State.scanRecords cs s).port.sent = s.port.sent
     ∧ (State.scanRecords cs s).relay = s.relay ∧ (State.scanRecords cs s).down.upFifo = s.down.upFifo
     ∧ (State.scanRecords cs s).down.grant = s.down.grant ∧ (State.scanRecords cs s).down.fairness = s.down.fairness
     ∧ (State.scanRecords cs s).down.poll = s.down.poll ∧ (State.scanRecords cs s).down.detections = s.down.detections
     ∧ (State.scanRecords cs s).down.clears = s.down.clears ∧ (State.scanRecords cs s).down.clearing = s.down.clearing
     ∧ (State.scanRecords cs s).down.ended = s.down.ended ∧ (State.scanRecords cs s).down.speed = s.down.speed
     ∧ (State.scanRecords cs s).down.activity = s.down.activity ∧ (State.scanRecords cs s).freeIndex = s.freeIndex
     ∧ (State.scanRecords cs s).pending = s.pending := by
  and_intros <;> unfold State.scanRecords <;> (try dsimp only) <;> (repeat' split) <;> first | (simp <;> done) | rfl

@[simp] theorem State.scanHeader_leaves (offset : Nat) (cs : List Candidate) (bs : List Byte) (s : State) :
    (State.scanHeader offset cs bs s).inReset = s.inReset
     ∧ (State.scanHeader offset cs bs s).setup.straps = s.setup.straps
     ∧ (State.scanHeader offset cs bs s).setup.reload = s.setup.reload
     ∧ (State.scanHeader offset cs bs s).setup.holding = s.setup.holding
     ∧ (State.scanHeader offset cs bs s).setup.stale = s.setup.stale
     ∧ (State.scanHeader offset cs bs s).setup.readAttempts = s.setup.readAttempts
     ∧ (State.scanHeader offset cs bs s).store.image = s.store.image
     ∧ (State.scanHeader offset cs bs s).queue.lost = s.queue.lost
     ∧ (State.scanHeader offset cs bs s).engine.pauseRequested = s.engine.pauseRequested
     ∧ (State.scanHeader offset cs bs s).engine.faultCode = s.engine.faultCode
     ∧ (State.scanHeader offset cs bs s).engine.faultDevice = s.engine.faultDevice
     ∧ (State.scanHeader offset cs bs s).read = s.read ∧ (State.scanHeader offset cs bs s).forward = s.forward
     ∧ (State.scanHeader offset cs bs s).window.lastMark = s.window.lastMark
     ∧ (State.scanHeader offset cs bs s).window.result = s.window.result
     ∧ (State.scanHeader offset cs bs s).window.done = s.window.done
     ∧ (State.scanHeader offset cs bs s).window.fwdFail = s.window.fwdFail
     ∧ (State.scanHeader offset cs bs s).window.completion = s.window.completion
     ∧ (State.scanHeader offset cs bs s).window.ffDevice = s.window.ffDevice
     ∧ (State.scanHeader offset cs bs s).window.ffAddr = s.window.ffAddr
     ∧ (State.scanHeader offset cs bs s).port.frame = s.port.frame
     ∧ (State.scanHeader offset cs bs s).port.hold = s.port.hold
     ∧ (State.scanHeader offset cs bs s).port.holdTimer = s.port.holdTimer
     ∧ (State.scanHeader offset cs bs s).port.idleTimer = s.port.idleTimer
     ∧ (State.scanHeader offset cs bs s).port.answer = s.port.answer
     ∧ (State.scanHeader offset cs bs s).port.sent = s.port.sent ∧ (State.scanHeader offset cs bs s).relay = s.relay
     ∧ (State.scanHeader offset cs bs s).down.upFifo = s.down.upFifo
     ∧ (State.scanHeader offset cs bs s).down.grant = s.down.grant
     ∧ (State.scanHeader offset cs bs s).down.fairness = s.down.fairness
     ∧ (State.scanHeader offset cs bs s).down.poll = s.down.poll
     ∧ (State.scanHeader offset cs bs s).down.detections = s.down.detections
     ∧ (State.scanHeader offset cs bs s).down.clears = s.down.clears
     ∧ (State.scanHeader offset cs bs s).down.clearing = s.down.clearing
     ∧ (State.scanHeader offset cs bs s).down.ended = s.down.ended
     ∧ (State.scanHeader offset cs bs s).down.speed = s.down.speed
     ∧ (State.scanHeader offset cs bs s).down.activity = s.down.activity
     ∧ (State.scanHeader offset cs bs s).freeIndex = s.freeIndex
     ∧ (State.scanHeader offset cs bs s).pending = s.pending := by
  and_intros <;> unfold State.scanHeader <;> (try dsimp only) <;> (repeat' split) <;> first | (simp <;> done) | rfl

@[simp] theorem State.scanRecord_leaves (offset : Nat) (cs : List Candidate) (bs : List Byte) (s : State) :
    (State.scanRecord offset cs bs s).inReset = s.inReset
     ∧ (State.scanRecord offset cs bs s).setup.straps = s.setup.straps
     ∧ (State.scanRecord offset cs bs s).setup.reload = s.setup.reload
     ∧ (State.scanRecord offset cs bs s).setup.holding = s.setup.holding
     ∧ (State.scanRecord offset cs bs s).setup.stale = s.setup.stale
     ∧ (State.scanRecord offset cs bs s).setup.readAttempts = s.setup.readAttempts
     ∧ (State.scanRecord offset cs bs s).store.image = s.store.image
     ∧ (State.scanRecord offset cs bs s).queue.lost = s.queue.lost
     ∧ (State.scanRecord offset cs bs s).engine.pauseRequested = s.engine.pauseRequested
     ∧ (State.scanRecord offset cs bs s).engine.faultCode = s.engine.faultCode
     ∧ (State.scanRecord offset cs bs s).engine.faultDevice = s.engine.faultDevice
     ∧ (State.scanRecord offset cs bs s).read = s.read ∧ (State.scanRecord offset cs bs s).forward = s.forward
     ∧ (State.scanRecord offset cs bs s).window.lastMark = s.window.lastMark
     ∧ (State.scanRecord offset cs bs s).window.result = s.window.result
     ∧ (State.scanRecord offset cs bs s).window.done = s.window.done
     ∧ (State.scanRecord offset cs bs s).window.fwdFail = s.window.fwdFail
     ∧ (State.scanRecord offset cs bs s).window.completion = s.window.completion
     ∧ (State.scanRecord offset cs bs s).window.ffDevice = s.window.ffDevice
     ∧ (State.scanRecord offset cs bs s).window.ffAddr = s.window.ffAddr
     ∧ (State.scanRecord offset cs bs s).port.frame = s.port.frame
     ∧ (State.scanRecord offset cs bs s).port.hold = s.port.hold
     ∧ (State.scanRecord offset cs bs s).port.holdTimer = s.port.holdTimer
     ∧ (State.scanRecord offset cs bs s).port.idleTimer = s.port.idleTimer
     ∧ (State.scanRecord offset cs bs s).port.answer = s.port.answer
     ∧ (State.scanRecord offset cs bs s).port.sent = s.port.sent ∧ (State.scanRecord offset cs bs s).relay = s.relay
     ∧ (State.scanRecord offset cs bs s).down.upFifo = s.down.upFifo
     ∧ (State.scanRecord offset cs bs s).down.grant = s.down.grant
     ∧ (State.scanRecord offset cs bs s).down.fairness = s.down.fairness
     ∧ (State.scanRecord offset cs bs s).down.poll = s.down.poll
     ∧ (State.scanRecord offset cs bs s).down.detections = s.down.detections
     ∧ (State.scanRecord offset cs bs s).down.clears = s.down.clears
     ∧ (State.scanRecord offset cs bs s).down.clearing = s.down.clearing
     ∧ (State.scanRecord offset cs bs s).down.ended = s.down.ended
     ∧ (State.scanRecord offset cs bs s).down.speed = s.down.speed
     ∧ (State.scanRecord offset cs bs s).down.activity = s.down.activity
     ∧ (State.scanRecord offset cs bs s).freeIndex = s.freeIndex
     ∧ (State.scanRecord offset cs bs s).pending = s.pending := by
  and_intros <;> unfold State.scanRecord <;> (try dsimp only) <;> (repeat' split) <;> first | (simp <;> done) | rfl

@[simp] theorem State.swap_leaves (bs : List Byte) (s : State) :
    (State.swap bs s).inReset = s.inReset ∧ (State.swap bs s).setup.straps = s.setup.straps
     ∧ (State.swap bs s).setup.loadBuffer = s.setup.loadBuffer ∧ (State.swap bs s).setup.attempt = s.setup.attempt
     ∧ (State.swap bs s).setup.kept = s.setup.kept ∧ (State.swap bs s).setup.readAttempts = s.setup.readAttempts
     ∧ (State.swap bs s).store = s.store ∧ (State.swap bs s).queue = s.queue ∧ (State.swap bs s).engine = s.engine
     ∧ (State.swap bs s).journal.nextSeq = s.journal.nextSeq ∧ (State.swap bs s).journal.lastSeq = s.journal.lastSeq
     ∧ (State.swap bs s).journal.lastTag = s.journal.lastTag ∧ (State.swap bs s).journal.live = s.journal.live
     ∧ (State.swap bs s).journal.scan = s.journal.scan ∧ (State.swap bs s).read = s.read
     ∧ (State.swap bs s).forward = s.forward ∧ (State.swap bs s).window = s.window
     ∧ (State.swap bs s).port.frame = s.port.frame ∧ (State.swap bs s).port.hold = s.port.hold
     ∧ (State.swap bs s).port.holdTimer = s.port.holdTimer ∧ (State.swap bs s).port.idleTimer = s.port.idleTimer
     ∧ (State.swap bs s).port.answer = s.port.answer ∧ (State.swap bs s).port.sent = s.port.sent
     ∧ (State.swap bs s).relay = s.relay ∧ (State.swap bs s).down.upFifo = s.down.upFifo
     ∧ (State.swap bs s).down.intReqs = s.down.intReqs ∧ (State.swap bs s).down.grant = s.down.grant
     ∧ (State.swap bs s).down.fairness = s.down.fairness ∧ (State.swap bs s).down.poll = s.down.poll
     ∧ (State.swap bs s).down.detections = s.down.detections ∧ (State.swap bs s).down.clears = s.down.clears
     ∧ (State.swap bs s).down.clearing = s.down.clearing ∧ (State.swap bs s).down.ended = s.down.ended
     ∧ (State.swap bs s).down.speed = s.down.speed ∧ (State.swap bs s).down.activity = s.down.activity
     ∧ (State.swap bs s).freeIndex = s.freeIndex ∧ (State.swap bs s).pending = s.pending := by
  and_intros <;> unfold State.swap <;> (try dsimp only) <;> (repeat' split) <;> first | (simp <;> done) | rfl

end Sys2Proof.Machine
end

