-- ==== Sys2Proof/Laws/Arbiter.lean ====
section
/-! SUPPORT. What each operation of the arbiter leaves as it is, the grants at the end of an event among them. -/

namespace Sys2Proof.Machine

@[simp] theorem State.sendFrame_leaves (r : Requester) (s : State) :
    (State.sendFrame r s).inReset = s.inReset ∧ (State.sendFrame r s).setup = s.setup
     ∧ (State.sendFrame r s).store = s.store ∧ (State.sendFrame r s).queue = s.queue
     ∧ (State.sendFrame r s).engine = s.engine ∧ (State.sendFrame r s).journal = s.journal
     ∧ (State.sendFrame r s).read = s.read ∧ (State.sendFrame r s).forward = s.forward
     ∧ (State.sendFrame r s).window = s.window ∧ (State.sendFrame r s).port = s.port
     ∧ (State.sendFrame r s).down.upFifo = s.down.upFifo ∧ (State.sendFrame r s).down.intReqs = s.down.intReqs
     ∧ (State.sendFrame r s).down.grant = s.down.grant ∧ (State.sendFrame r s).down.fairness = s.down.fairness
     ∧ (State.sendFrame r s).down.states = s.down.states ∧ (State.sendFrame r s).down.poll = s.down.poll
     ∧ (State.sendFrame r s).down.detections = s.down.detections ∧ (State.sendFrame r s).down.clears = s.down.clears
     ∧ (State.sendFrame r s).down.clearing = s.down.clearing ∧ (State.sendFrame r s).down.ended = s.down.ended
     ∧ (State.sendFrame r s).down.speed = s.down.speed ∧ (State.sendFrame r s).freeIndex = s.freeIndex
     ∧ (State.sendFrame r s).pending = s.pending := by
  and_intros <;> unfold State.sendFrame <;> (try dsimp only) <;> (repeat' split) <;> first | (simp <;> done) | rfl

@[simp] theorem State.releasePosted_leaves (s : State) :
    (State.releasePosted s).inReset = s.inReset ∧ (State.releasePosted s).setup = s.setup
     ∧ (State.releasePosted s).store = s.store ∧ (State.releasePosted s).queue = s.queue
     ∧ (State.releasePosted s).engine = s.engine ∧ (State.releasePosted s).journal = s.journal
     ∧ (State.releasePosted s).read = s.read ∧ (State.releasePosted s).window = s.window
     ∧ (State.releasePosted s).port.gate = s.port.gate ∧ (State.releasePosted s).port.frame = s.port.frame
     ∧ (State.releasePosted s).port.sent = s.port.sent ∧ (State.releasePosted s).relay = s.relay
     ∧ (State.releasePosted s).down = s.down ∧ (State.releasePosted s).freeIndex = s.freeIndex
     ∧ (State.releasePosted s).pending = s.pending := by
  and_intros <;> unfold State.releasePosted <;> (try dsimp only) <;> (repeat' split) <;> first | (simp <;> done) | rfl

@[simp] theorem State.slotDone_leaves (i : SlotId) (s : State) :
    (State.slotDone i s).inReset = s.inReset ∧ (State.slotDone i s).setup = s.setup
     ∧ (State.slotDone i s).store = s.store ∧ (State.slotDone i s).queue = s.queue
     ∧ (State.slotDone i s).engine = s.engine ∧ (State.slotDone i s).journal = s.journal
     ∧ (State.slotDone i s).read = s.read ∧ (State.slotDone i s).window = s.window
     ∧ (State.slotDone i s).port.gate = s.port.gate ∧ (State.slotDone i s).port.frame = s.port.frame
     ∧ (State.slotDone i s).port.sent = s.port.sent ∧ (State.slotDone i s).relay = s.relay
     ∧ (State.slotDone i s).down = s.down ∧ (State.slotDone i s).freeIndex = s.freeIndex
     ∧ (State.slotDone i s).pending = s.pending := by
  and_intros <;> unfold State.slotDone <;> (try dsimp only) <;> (repeat' split) <;> first | (simp <;> done) | rfl

@[simp] theorem State.refuseRead_leaves (s : State) :
    (State.refuseRead s).inReset = s.inReset ∧ (State.refuseRead s).setup = s.setup
     ∧ (State.refuseRead s).store = s.store ∧ (State.refuseRead s).queue = s.queue
     ∧ (State.refuseRead s).engine = s.engine ∧ (State.refuseRead s).journal = s.journal
     ∧ (State.refuseRead s).read.dev = s.read.dev ∧ (State.refuseRead s).read.snapshot = s.read.snapshot
     ∧ (State.refuseRead s).forward = s.forward ∧ (State.refuseRead s).window = s.window
     ∧ (State.refuseRead s).port.gate = s.port.gate ∧ (State.refuseRead s).port.pointers = s.port.pointers
     ∧ (State.refuseRead s).port.sent = s.port.sent ∧ (State.refuseRead s).relay = s.relay
     ∧ (State.refuseRead s).down = s.down ∧ (State.refuseRead s).freeIndex = s.freeIndex
     ∧ (State.refuseRead s).pending = s.pending := by
  and_intros <;> unfold State.refuseRead <;> (try dsimp only) <;> (repeat' split) <;> first | (simp <;> done) | rfl

@[simp] theorem State.fillRead_leaves (s : State) :
    (State.fillRead s).inReset = s.inReset ∧ (State.fillRead s).setup = s.setup ∧ (State.fillRead s).store = s.store
     ∧ (State.fillRead s).queue = s.queue ∧ (State.fillRead s).engine = s.engine
     ∧ (State.fillRead s).journal = s.journal ∧ (State.fillRead s).read.dev = s.read.dev
     ∧ (State.fillRead s).read.snapshot = s.read.snapshot ∧ (State.fillRead s).forward = s.forward
     ∧ (State.fillRead s).window = s.window ∧ (State.fillRead s).port.gate = s.port.gate
     ∧ (State.fillRead s).port.frame = s.port.frame ∧ (State.fillRead s).port.pointers = s.port.pointers
     ∧ (State.fillRead s).port.answer = s.port.answer ∧ (State.fillRead s).relay = s.relay
     ∧ (State.fillRead s).down = s.down ∧ (State.fillRead s).freeIndex = s.freeIndex
     ∧ (State.fillRead s).pending = s.pending := by
  and_intros <;> unfold State.fillRead <;> (try dsimp only) <;> (repeat' split) <;> first | (simp <;> done) | rfl

@[simp] theorem State.readFailed_leaves (s : State) :
    (State.readFailed s).inReset = s.inReset ∧ (State.readFailed s).setup = s.setup
     ∧ (State.readFailed s).store = s.store ∧ (State.readFailed s).queue = s.queue
     ∧ (State.readFailed s).engine = s.engine ∧ (State.readFailed s).journal = s.journal
     ∧ (State.readFailed s).read.dev = s.read.dev ∧ (State.readFailed s).read.snapshot = s.read.snapshot
     ∧ (State.readFailed s).forward = s.forward ∧ (State.readFailed s).window = s.window
     ∧ (State.readFailed s).port.gate = s.port.gate ∧ (State.readFailed s).port.pointers = s.port.pointers
     ∧ (State.readFailed s).relay = s.relay ∧ (State.readFailed s).down.upFifo = s.down.upFifo
     ∧ (State.readFailed s).down.intReqs = s.down.intReqs ∧ (State.readFailed s).down.fairness = s.down.fairness
     ∧ (State.readFailed s).down.states = s.down.states ∧ (State.readFailed s).down.detections = s.down.detections
     ∧ (State.readFailed s).down.clears = s.down.clears ∧ (State.readFailed s).down.speed = s.down.speed
     ∧ (State.readFailed s).freeIndex = s.freeIndex ∧ (State.readFailed s).pending = s.pending := by
  and_intros <;> unfold State.readFailed <;> (try dsimp only) <;> (repeat' split) <;> first | (simp <;> done) | rfl

@[simp] theorem State.relayLost_leaves (s : State) :
    (State.relayLost s).inReset = s.inReset ∧ (State.relayLost s).setup = s.setup
     ∧ (State.relayLost s).store = s.store ∧ (State.relayLost s).queue = s.queue
     ∧ (State.relayLost s).engine = s.engine ∧ (State.relayLost s).journal = s.journal
     ∧ (State.relayLost s).read = s.read ∧ (State.relayLost s).forward = s.forward
     ∧ (State.relayLost s).window = s.window ∧ (State.relayLost s).port.gate = s.port.gate
     ∧ (State.relayLost s).port.pointers = s.port.pointers ∧ (State.relayLost s).relay = s.relay
     ∧ (State.relayLost s).down = s.down ∧ (State.relayLost s).freeIndex = s.freeIndex
     ∧ (State.relayLost s).pending = s.pending := by
  and_intros <;> unfold State.relayLost <;> (try dsimp only) <;> (repeat' split) <;> first | (simp <;> done) | rfl

@[simp] theorem State.relayPollFailed_leaves (s : State) :
    (State.relayPollFailed s).inReset = s.inReset ∧ (State.relayPollFailed s).setup.straps = s.setup.straps
     ∧ (State.relayPollFailed s).setup.config = s.setup.config
     ∧ (State.relayPollFailed s).setup.tables = s.setup.tables
     ∧ (State.relayPollFailed s).setup.reload = s.setup.reload
     ∧ (State.relayPollFailed s).setup.holding = s.setup.holding
     ∧ (State.relayPollFailed s).setup.stale = s.setup.stale ∧ (State.relayPollFailed s).setup.phase = s.setup.phase
     ∧ (State.relayPollFailed s).store = s.store ∧ (State.relayPollFailed s).queue = s.queue
     ∧ (State.relayPollFailed s).engine = s.engine ∧ (State.relayPollFailed s).journal = s.journal
     ∧ (State.relayPollFailed s).read = s.read ∧ (State.relayPollFailed s).forward = s.forward
     ∧ (State.relayPollFailed s).window.lastMark = s.window.lastMark
     ∧ (State.relayPollFailed s).window.result = s.window.result
     ∧ (State.relayPollFailed s).window.done = s.window.done
     ∧ (State.relayPollFailed s).window.fwdFail = s.window.fwdFail
     ∧ (State.relayPollFailed s).window.completion = s.window.completion
     ∧ (State.relayPollFailed s).window.ffDevice = s.window.ffDevice
     ∧ (State.relayPollFailed s).window.ffAddr = s.window.ffAddr ∧ (State.relayPollFailed s).port = s.port
     ∧ (State.relayPollFailed s).relay = s.relay ∧ (State.relayPollFailed s).down.upFifo = s.down.upFifo
     ∧ (State.relayPollFailed s).down.grant = s.down.grant ∧ (State.relayPollFailed s).down.fairness = s.down.fairness
     ∧ (State.relayPollFailed s).down.states = s.down.states ∧ (State.relayPollFailed s).down.poll = s.down.poll
     ∧ (State.relayPollFailed s).down.detections = s.down.detections
     ∧ (State.relayPollFailed s).down.clears = s.down.clears
     ∧ (State.relayPollFailed s).down.clearing = s.down.clearing ∧ (State.relayPollFailed s).down.ended = s.down.ended
     ∧ (State.relayPollFailed s).down.speed = s.down.speed ∧ (State.relayPollFailed s).down.activity = s.down.activity
     ∧ (State.relayPollFailed s).freeIndex = s.freeIndex ∧ (State.relayPollFailed s).pending = s.pending := by
  and_intros <;> unfold State.relayPollFailed <;> (try dsimp only) <;> (repeat' split) <;> first | (simp <;> done) | rfl

@[simp] theorem State.relayFailed_leaves (c : OpFailure) (s : State) :
    (State.relayFailed c s).inReset = s.inReset ∧ (State.relayFailed c s).setup.straps = s.setup.straps
     ∧ (State.relayFailed c s).setup.config = s.setup.config ∧ (State.relayFailed c s).setup.tables = s.setup.tables
     ∧ (State.relayFailed c s).setup.reload = s.setup.reload ∧ (State.relayFailed c s).setup.holding = s.setup.holding
     ∧ (State.relayFailed c s).setup.stale = s.setup.stale ∧ (State.relayFailed c s).setup.phase = s.setup.phase
     ∧ (State.relayFailed c s).store = s.store ∧ (State.relayFailed c s).queue = s.queue
     ∧ (State.relayFailed c s).engine = s.engine ∧ (State.relayFailed c s).journal = s.journal
     ∧ (State.relayFailed c s).read = s.read ∧ (State.relayFailed c s).forward = s.forward
     ∧ (State.relayFailed c s).window.lastMark = s.window.lastMark
     ∧ (State.relayFailed c s).window.result = s.window.result ∧ (State.relayFailed c s).window.done = s.window.done
     ∧ (State.relayFailed c s).window.fwdFail = s.window.fwdFail
     ∧ (State.relayFailed c s).window.completion = s.window.completion
     ∧ (State.relayFailed c s).window.ffDevice = s.window.ffDevice
     ∧ (State.relayFailed c s).window.ffAddr = s.window.ffAddr ∧ (State.relayFailed c s).port.gate = s.port.gate
     ∧ (State.relayFailed c s).port.pointers = s.port.pointers ∧ (State.relayFailed c s).down.upFifo = s.down.upFifo
     ∧ (State.relayFailed c s).down.fairness = s.down.fairness ∧ (State.relayFailed c s).down.states = s.down.states
     ∧ (State.relayFailed c s).down.detections = s.down.detections
     ∧ (State.relayFailed c s).down.clears = s.down.clears ∧ (State.relayFailed c s).down.speed = s.down.speed
     ∧ (State.relayFailed c s).freeIndex = s.freeIndex ∧ (State.relayFailed c s).pending = s.pending := by
  and_intros <;> unfold State.relayFailed <;> (try dsimp only) <;> (repeat' split) <;> first | (simp <;> done) | rfl

@[simp] theorem State.failOp_leaves (r : Requester) (c : OpFailure) (s : State) :
    (State.failOp r c s).inReset = s.inReset ∧ (State.failOp r c s).setup.straps = s.setup.straps
     ∧ (State.failOp r c s).store = s.store ∧ (State.failOp r c s).queue.sealed = s.queue.sealed
     ∧ (State.failOp r c s).queue.lost = s.queue.lost ∧ (State.failOp r c s).engine.pointer = s.engine.pointer
     ∧ (State.failOp r c s).engine.attempts = s.engine.attempts
     ∧ (State.failOp r c s).engine.pauseRequested = s.engine.pauseRequested
     ∧ (State.failOp r c s).journal.head = s.journal.head ∧ (State.failOp r c s).journal.nextSeq = s.journal.nextSeq
     ∧ (State.failOp r c s).journal.lastSeq = s.journal.lastSeq
     ∧ (State.failOp r c s).journal.lastTag = s.journal.lastTag ∧ (State.failOp r c s).journal.live = s.journal.live
     ∧ (State.failOp r c s).read.dev = s.read.dev ∧ (State.failOp r c s).read.snapshot = s.read.snapshot
     ∧ (State.failOp r c s).window.lastMark = s.window.lastMark ∧ (State.failOp r c s).window.result = s.window.result
     ∧ (State.failOp r c s).window.done = s.window.done ∧ (State.failOp r c s).window.completion = s.window.completion
     ∧ (State.failOp r c s).down.upFifo = s.down.upFifo ∧ (State.failOp r c s).down.fairness = s.down.fairness
     ∧ (State.failOp r c s).down.detections = s.down.detections ∧ (State.failOp r c s).down.clears = s.down.clears
     ∧ (State.failOp r c s).down.speed = s.down.speed ∧ (State.failOp r c s).freeIndex = s.freeIndex
     ∧ (State.failOp r c s).pending = s.pending := by
  and_intros <;> unfold State.failOp <;> (try dsimp only) <;> (repeat' split) <;> first | (simp <;> done) | rfl

@[simp] theorem State.granted_leaves (r : Requester) (s : State) :
    (State.granted r s).inReset = s.inReset ∧ (State.granted r s).setup.straps = s.setup.straps
     ∧ (State.granted r s).setup.config = s.setup.config ∧ (State.granted r s).setup.reject = s.setup.reject
     ∧ (State.granted r s).setup.tables = s.setup.tables ∧ (State.granted r s).setup.reload = s.setup.reload
     ∧ (State.granted r s).setup.holding = s.setup.holding ∧ (State.granted r s).setup.loadBuffer = s.setup.loadBuffer
     ∧ (State.granted r s).setup.stale = s.setup.stale ∧ (State.granted r s).setup.kept = s.setup.kept
     ∧ (State.granted r s).setup.readAttempts = s.setup.readAttempts ∧ (State.granted r s).setup.phase = s.setup.phase
     ∧ (State.granted r s).store = s.store ∧ (State.granted r s).queue = s.queue
     ∧ (State.granted r s).engine = s.engine ∧ (State.granted r s).journal = s.journal
     ∧ (State.granted r s).read.dev = s.read.dev ∧ (State.granted r s).read.snapshot = s.read.snapshot
     ∧ (State.granted r s).window = s.window ∧ (State.granted r s).port = s.port ∧ (State.granted r s).down = s.down
     ∧ (State.granted r s).freeIndex = s.freeIndex ∧ (State.granted r s).pending = s.pending := by
  and_intros <;> unfold State.granted <;> (try dsimp only) <;> (repeat' split) <;> first | (simp <;> done) | rfl

@[simp] theorem State.openRelay_leaves (s : State) :
    (State.openRelay s).inReset = s.inReset ∧ (State.openRelay s).setup = s.setup
     ∧ (State.openRelay s).store = s.store ∧ (State.openRelay s).queue = s.queue
     ∧ (State.openRelay s).engine = s.engine ∧ (State.openRelay s).journal = s.journal
     ∧ (State.openRelay s).read = s.read ∧ (State.openRelay s).forward = s.forward
     ∧ (State.openRelay s).window = s.window ∧ (State.openRelay s).port = s.port ∧ (State.openRelay s).down = s.down
     ∧ (State.openRelay s).freeIndex = s.freeIndex ∧ (State.openRelay s).pending = s.pending := by
  and_intros <;> unfold State.openRelay <;> (try dsimp only) <;> (repeat' split) <;> first | (simp <;> done) | rfl

@[simp] theorem State.openGrant_leaves (r : Requester) (s : State) :
    (State.openGrant r s).inReset = s.inReset ∧ (State.openGrant r s).setup.straps = s.setup.straps
     ∧ (State.openGrant r s).store = s.store ∧ (State.openGrant r s).queue.sealed = s.queue.sealed
     ∧ (State.openGrant r s).queue.lost = s.queue.lost ∧ (State.openGrant r s).engine.pointer = s.engine.pointer
     ∧ (State.openGrant r s).engine.attempts = s.engine.attempts
     ∧ (State.openGrant r s).engine.pauseRequested = s.engine.pauseRequested
     ∧ (State.openGrant r s).journal.head = s.journal.head ∧ (State.openGrant r s).journal.nextSeq = s.journal.nextSeq
     ∧ (State.openGrant r s).journal.lastSeq = s.journal.lastSeq
     ∧ (State.openGrant r s).journal.lastTag = s.journal.lastTag ∧ (State.openGrant r s).journal.live = s.journal.live
     ∧ (State.openGrant r s).read.dev = s.read.dev ∧ (State.openGrant r s).read.snapshot = s.read.snapshot
     ∧ (State.openGrant r s).window.lastMark = s.window.lastMark
     ∧ (State.openGrant r s).window.result = s.window.result ∧ (State.openGrant r s).window.done = s.window.done
     ∧ (State.openGrant r s).window.completion = s.window.completion
     ∧ (State.openGrant r s).down.upFifo = s.down.upFifo ∧ (State.openGrant r s).down.fairness = s.down.fairness
     ∧ (State.openGrant r s).down.detections = s.down.detections ∧ (State.openGrant r s).down.clears = s.down.clears
     ∧ (State.openGrant r s).down.speed = s.down.speed ∧ (State.openGrant r s).freeIndex = s.freeIndex
     ∧ (State.openGrant r s).pending = s.pending := by
  and_intros <;> unfold State.openGrant <;> (try dsimp only) <;> (repeat' split) <;> first | (simp <;> done) | rfl

@[simp] theorem State.award_leaves (r : Requester) (s : State) :
    (State.award r s).inReset = s.inReset ∧ (State.award r s).setup = s.setup ∧ (State.award r s).store = s.store
     ∧ (State.award r s).queue = s.queue ∧ (State.award r s).engine = s.engine ∧ (State.award r s).journal = s.journal
     ∧ (State.award r s).read = s.read ∧ (State.award r s).forward = s.forward ∧ (State.award r s).window = s.window
     ∧ (State.award r s).port = s.port ∧ (State.award r s).relay = s.relay
     ∧ (State.award r s).down.upFifo = s.down.upFifo ∧ (State.award r s).down.intReqs = s.down.intReqs
     ∧ (State.award r s).down.fairness = s.down.fairness ∧ (State.award r s).down.states = s.down.states
     ∧ (State.award r s).down.poll = s.down.poll ∧ (State.award r s).down.clears = s.down.clears
     ∧ (State.award r s).down.clearing = s.down.clearing ∧ (State.award r s).down.activity = s.down.activity
     ∧ (State.award r s).freeIndex = s.freeIndex ∧ (State.award r s).pending = s.pending := by
  and_intros <;> unfold State.award <;> (try dsimp only) <;> (repeat' split) <;> first | (simp <;> done) | rfl

theorem State.choose_leaves (raced : Bool) (r : Requester) (s' : State) (s : State)
    (h : s.choose raced = some (r, s')) :
    s'.inReset = s.inReset ∧ s'.setup = s.setup ∧ s'.store = s.store ∧ s'.queue = s.queue ∧ s'.engine = s.engine
     ∧ s'.journal = s.journal ∧ s'.read = s.read ∧ s'.forward = s.forward ∧ s'.window = s.window ∧ s'.port = s.port
     ∧ s'.relay = s.relay ∧ s'.down.grant = s.down.grant ∧ s'.down.states = s.down.states ∧ s'.down.poll = s.down.poll
     ∧ s'.down.detections = s.down.detections ∧ s'.down.clears = s.down.clears ∧ s'.down.clearing = s.down.clearing
     ∧ s'.down.ended = s.down.ended ∧ s'.down.speed = s.down.speed ∧ s'.down.activity = s.down.activity
     ∧ s'.pending = s.pending := by
  unfold State.choose at h
  repeat' split at h
  all_goals simp at h
  all_goals (obtain ⟨_, rfl⟩ := h; simp)

@[simp] theorem State.grantLoop_leaves (n : Nat) (raced : Bool) (s : State) :
    (State.grantLoop n raced s).inReset = s.inReset ∧ (State.grantLoop n raced s).setup.straps = s.setup.straps
     ∧ (State.grantLoop n raced s).store = s.store ∧ (State.grantLoop n raced s).queue.sealed = s.queue.sealed
     ∧ (State.grantLoop n raced s).queue.lost = s.queue.lost
     ∧ (State.grantLoop n raced s).engine.pointer = s.engine.pointer
     ∧ (State.grantLoop n raced s).engine.attempts = s.engine.attempts
     ∧ (State.grantLoop n raced s).engine.pauseRequested = s.engine.pauseRequested
     ∧ (State.grantLoop n raced s).journal.head = s.journal.head
     ∧ (State.grantLoop n raced s).journal.nextSeq = s.journal.nextSeq
     ∧ (State.grantLoop n raced s).journal.lastSeq = s.journal.lastSeq
     ∧ (State.grantLoop n raced s).journal.lastTag = s.journal.lastTag
     ∧ (State.grantLoop n raced s).journal.live = s.journal.live ∧ (State.grantLoop n raced s).read.dev = s.read.dev
     ∧ (State.grantLoop n raced s).read.snapshot = s.read.snapshot
     ∧ (State.grantLoop n raced s).window.lastMark = s.window.lastMark
     ∧ (State.grantLoop n raced s).window.result = s.window.result
     ∧ (State.grantLoop n raced s).window.done = s.window.done
     ∧ (State.grantLoop n raced s).window.completion = s.window.completion
     ∧ (State.grantLoop n raced s).down.clears = s.down.clears ∧ (State.grantLoop n raced s).pending = s.pending := by
  induction n generalizing s raced with
  | zero => simp [State.grantLoop]
  | succ n ih =>
    unfold State.grantLoop
    split
    · simp
    · split
      · simp
      · rename_i h
        have := State.choose_leaves _ _ _ _ h
        simp [ih, this]

@[simp] theorem State.conclude_leaves (s0 : State) (s : State) :
    (State.conclude s0 s).inReset = s.inReset ∧ (State.conclude s0 s).setup.straps = s.setup.straps
     ∧ (State.conclude s0 s).store = s.store ∧ (State.conclude s0 s).queue.sealed = s.queue.sealed
     ∧ (State.conclude s0 s).queue.lost = s.queue.lost ∧ (State.conclude s0 s).engine.pointer = s.engine.pointer
     ∧ (State.conclude s0 s).engine.attempts = s.engine.attempts
     ∧ (State.conclude s0 s).engine.pauseRequested = s.engine.pauseRequested
     ∧ (State.conclude s0 s).journal.head = s.journal.head ∧ (State.conclude s0 s).journal.nextSeq = s.journal.nextSeq
     ∧ (State.conclude s0 s).journal.lastSeq = s.journal.lastSeq
     ∧ (State.conclude s0 s).journal.lastTag = s.journal.lastTag ∧ (State.conclude s0 s).journal.live = s.journal.live
     ∧ (State.conclude s0 s).read.dev = s.read.dev ∧ (State.conclude s0 s).read.snapshot = s.read.snapshot
     ∧ (State.conclude s0 s).window.lastMark = s.window.lastMark
     ∧ (State.conclude s0 s).window.result = s.window.result ∧ (State.conclude s0 s).window.done = s.window.done
     ∧ (State.conclude s0 s).window.completion = s.window.completion
     ∧ (State.conclude s0 s).down.clears = s.down.clears ∧ (State.conclude s0 s).pending = s.pending := by
  simp [State.conclude]

@[simp] theorem State.reportStuck_leaves (r : Requester) (s : State) :
    (State.reportStuck r s).inReset = s.inReset ∧ (State.reportStuck r s).setup.straps = s.setup.straps
     ∧ (State.reportStuck r s).store = s.store ∧ (State.reportStuck r s).queue.sealed = s.queue.sealed
     ∧ (State.reportStuck r s).queue.lost = s.queue.lost ∧ (State.reportStuck r s).engine.pointer = s.engine.pointer
     ∧ (State.reportStuck r s).engine.attempts = s.engine.attempts
     ∧ (State.reportStuck r s).engine.pauseRequested = s.engine.pauseRequested
     ∧ (State.reportStuck r s).journal.head = s.journal.head
     ∧ (State.reportStuck r s).journal.nextSeq = s.journal.nextSeq
     ∧ (State.reportStuck r s).journal.lastSeq = s.journal.lastSeq
     ∧ (State.reportStuck r s).journal.lastTag = s.journal.lastTag
     ∧ (State.reportStuck r s).journal.live = s.journal.live ∧ (State.reportStuck r s).read.dev = s.read.dev
     ∧ (State.reportStuck r s).read.snapshot = s.read.snapshot
     ∧ (State.reportStuck r s).window.lastMark = s.window.lastMark
     ∧ (State.reportStuck r s).window.result = s.window.result ∧ (State.reportStuck r s).window.done = s.window.done
     ∧ (State.reportStuck r s).window.completion = s.window.completion
     ∧ (State.reportStuck r s).down.upFifo = s.down.upFifo ∧ (State.reportStuck r s).down.fairness = s.down.fairness
     ∧ (State.reportStuck r s).down.detections = s.down.detections
     ∧ (State.reportStuck r s).down.clears = s.down.clears ∧ (State.reportStuck r s).down.speed = s.down.speed
     ∧ (State.reportStuck r s).freeIndex = s.freeIndex ∧ (State.reportStuck r s).pending = s.pending := by
  and_intros <;> unfold State.reportStuck <;> (try dsimp only) <;> (repeat' split) <;> first | (simp <;> done) | rfl

@[simp] theorem State.attemptPolled_leaves (s : State) :
    (State.attemptPolled s).inReset = s.inReset ∧ (State.attemptPolled s).setup.straps = s.setup.straps
     ∧ (State.attemptPolled s).setup.config = s.setup.config ∧ (State.attemptPolled s).setup.reject = s.setup.reject
     ∧ (State.attemptPolled s).setup.tables = s.setup.tables ∧ (State.attemptPolled s).setup.reload = s.setup.reload
     ∧ (State.attemptPolled s).setup.holding = s.setup.holding
     ∧ (State.attemptPolled s).setup.loadBuffer = s.setup.loadBuffer
     ∧ (State.attemptPolled s).setup.stale = s.setup.stale ∧ (State.attemptPolled s).setup.kept = s.setup.kept
     ∧ (State.attemptPolled s).setup.phase = s.setup.phase ∧ (State.attemptPolled s).store = s.store
     ∧ (State.attemptPolled s).queue = s.queue ∧ (State.attemptPolled s).engine = s.engine
     ∧ (State.attemptPolled s).journal = s.journal ∧ (State.attemptPolled s).read = s.read
     ∧ (State.attemptPolled s).forward = s.forward ∧ (State.attemptPolled s).window = s.window
     ∧ (State.attemptPolled s).port = s.port ∧ (State.attemptPolled s).relay = s.relay
     ∧ (State.attemptPolled s).down.upFifo = s.down.upFifo ∧ (State.attemptPolled s).down.grant = s.down.grant
     ∧ (State.attemptPolled s).down.fairness = s.down.fairness ∧ (State.attemptPolled s).down.states = s.down.states
     ∧ (State.attemptPolled s).down.poll = s.down.poll ∧ (State.attemptPolled s).down.detections = s.down.detections
     ∧ (State.attemptPolled s).down.clears = s.down.clears ∧ (State.attemptPolled s).down.clearing = s.down.clearing
     ∧ (State.attemptPolled s).down.ended = s.down.ended ∧ (State.attemptPolled s).down.speed = s.down.speed
     ∧ (State.attemptPolled s).down.activity = s.down.activity ∧ (State.attemptPolled s).freeIndex = s.freeIndex
     ∧ (State.attemptPolled s).pending = s.pending := by
  and_intros <;> unfold State.attemptPolled <;> (try dsimp only) <;> (repeat' split) <;> first | (simp <;> done) | rfl

@[simp] theorem State.resumeAfterClear_leaves (r : Requester) (s : State) :
    (State.resumeAfterClear r s).inReset = s.inReset ∧ (State.resumeAfterClear r s).setup.straps = s.setup.straps
     ∧ (State.resumeAfterClear r s).setup.config = s.setup.config
     ∧ (State.resumeAfterClear r s).setup.reject = s.setup.reject
     ∧ (State.resumeAfterClear r s).setup.tables = s.setup.tables
     ∧ (State.resumeAfterClear r s).setup.reload = s.setup.reload
     ∧ (State.resumeAfterClear r s).setup.holding = s.setup.holding
     ∧ (State.resumeAfterClear r s).setup.loadBuffer = s.setup.loadBuffer
     ∧ (State.resumeAfterClear r s).setup.stale = s.setup.stale
     ∧ (State.resumeAfterClear r s).setup.kept = s.setup.kept
     ∧ (State.resumeAfterClear r s).setup.phase = s.setup.phase ∧ (State.resumeAfterClear r s).store = s.store
     ∧ (State.resumeAfterClear r s).queue = s.queue ∧ (State.resumeAfterClear r s).engine = s.engine
     ∧ (State.resumeAfterClear r s).journal = s.journal ∧ (State.resumeAfterClear r s).read = s.read
     ∧ (State.resumeAfterClear r s).forward = s.forward ∧ (State.resumeAfterClear r s).window = s.window
     ∧ (State.resumeAfterClear r s).port.gate = s.port.gate
     ∧ (State.resumeAfterClear r s).port.pointers = s.port.pointers
     ∧ (State.resumeAfterClear r s).down.upFifo = s.down.upFifo
     ∧ (State.resumeAfterClear r s).down.fairness = s.down.fairness
     ∧ (State.resumeAfterClear r s).down.states = s.down.states
     ∧ (State.resumeAfterClear r s).down.detections = s.down.detections
     ∧ (State.resumeAfterClear r s).down.clears = s.down.clears
     ∧ (State.resumeAfterClear r s).down.speed = s.down.speed ∧ (State.resumeAfterClear r s).freeIndex = s.freeIndex
     ∧ (State.resumeAfterClear r s).pending = s.pending := by
  and_intros <;> unfold State.resumeAfterClear <;> (try dsimp only) <;> (repeat' split) <;> first | (simp <;> done) | rfl

@[simp] theorem State.takeReloadRequest_leaves (s : State) :
    (State.takeReloadRequest s).inReset = s.inReset ∧ (State.takeReloadRequest s).setup.straps = s.setup.straps
     ∧ (State.takeReloadRequest s).store = s.store ∧ (State.takeReloadRequest s).queue.sealed = s.queue.sealed
     ∧ (State.takeReloadRequest s).queue.lost = s.queue.lost
     ∧ (State.takeReloadRequest s).engine.pointer = s.engine.pointer
     ∧ (State.takeReloadRequest s).engine.attempts = s.engine.attempts
     ∧ (State.takeReloadRequest s).engine.pauseRequested = s.engine.pauseRequested
     ∧ (State.takeReloadRequest s).journal.head = s.journal.head
     ∧ (State.takeReloadRequest s).journal.nextSeq = s.journal.nextSeq
     ∧ (State.takeReloadRequest s).journal.lastSeq = s.journal.lastSeq
     ∧ (State.takeReloadRequest s).journal.lastTag = s.journal.lastTag
     ∧ (State.takeReloadRequest s).journal.live = s.journal.live ∧ (State.takeReloadRequest s).read.dev = s.read.dev
     ∧ (State.takeReloadRequest s).read.snapshot = s.read.snapshot
     ∧ (State.takeReloadRequest s).window.lastMark = s.window.lastMark
     ∧ (State.takeReloadRequest s).window.result = s.window.result
     ∧ (State.takeReloadRequest s).window.done = s.window.done
     ∧ (State.takeReloadRequest s).window.completion = s.window.completion
     ∧ (State.takeReloadRequest s).down.clears = s.down.clears ∧ (State.takeReloadRequest s).pending = s.pending := by
  and_intros <;> unfold State.takeReloadRequest <;> (try dsimp only) <;> (repeat' split) <;> first | (simp <;> done) | rfl

@[simp] theorem State.takeSwap_leaves (s : State) :
    (State.takeSwap s).inReset = s.inReset ∧ (State.takeSwap s).setup.straps = s.setup.straps
     ∧ (State.takeSwap s).setup.loadBuffer = s.setup.loadBuffer ∧ (State.takeSwap s).setup.attempt = s.setup.attempt
     ∧ (State.takeSwap s).setup.kept = s.setup.kept ∧ (State.takeSwap s).setup.readAttempts = s.setup.readAttempts
     ∧ (State.takeSwap s).store = s.store ∧ (State.takeSwap s).queue = s.queue ∧ (State.takeSwap s).engine = s.engine
     ∧ (State.takeSwap s).journal.nextSeq = s.journal.nextSeq ∧ (State.takeSwap s).journal.lastSeq = s.journal.lastSeq
     ∧ (State.takeSwap s).journal.lastTag = s.journal.lastTag ∧ (State.takeSwap s).journal.live = s.journal.live
     ∧ (State.takeSwap s).journal.scan = s.journal.scan ∧ (State.takeSwap s).read = s.read
     ∧ (State.takeSwap s).forward = s.forward ∧ (State.takeSwap s).window = s.window
     ∧ (State.takeSwap s).port.frame = s.port.frame ∧ (State.takeSwap s).port.hold = s.port.hold
     ∧ (State.takeSwap s).port.holdTimer = s.port.holdTimer ∧ (State.takeSwap s).port.idleTimer = s.port.idleTimer
     ∧ (State.takeSwap s).port.answer = s.port.answer ∧ (State.takeSwap s).port.sent = s.port.sent
     ∧ (State.takeSwap s).relay = s.relay ∧ (State.takeSwap s).down.upFifo = s.down.upFifo
     ∧ (State.takeSwap s).down.intReqs = s.down.intReqs ∧ (State.takeSwap s).down.grant = s.down.grant
     ∧ (State.takeSwap s).down.fairness = s.down.fairness ∧ (State.takeSwap s).down.poll = s.down.poll
     ∧ (State.takeSwap s).down.detections = s.down.detections ∧ (State.takeSwap s).down.clears = s.down.clears
     ∧ (State.takeSwap s).down.clearing = s.down.clearing ∧ (State.takeSwap s).down.ended = s.down.ended
     ∧ (State.takeSwap s).down.speed = s.down.speed ∧ (State.takeSwap s).down.activity = s.down.activity
     ∧ (State.takeSwap s).freeIndex = s.freeIndex ∧ (State.takeSwap s).pending = s.pending := by
  and_intros <;> unfold State.takeSwap <;> (try dsimp only) <;> (repeat' split) <;> first | (simp <;> done) | rfl

@[simp] theorem State.takeSetup_leaves (s : State) :
    (State.takeSetup s).inReset = s.inReset ∧ (State.takeSetup s).setup.straps = s.setup.straps
     ∧ (State.takeSetup s).store = s.store ∧ (State.takeSetup s).queue.sealed = s.queue.sealed
     ∧ (State.takeSetup s).queue.lost = s.queue.lost ∧ (State.takeSetup s).engine.pointer = s.engine.pointer
     ∧ (State.takeSetup s).engine.attempts = s.engine.attempts
     ∧ (State.takeSetup s).engine.pauseRequested = s.engine.pauseRequested
     ∧ (State.takeSetup s).journal.nextSeq = s.journal.nextSeq
     ∧ (State.takeSetup s).journal.lastSeq = s.journal.lastSeq
     ∧ (State.takeSetup s).journal.lastTag = s.journal.lastTag ∧ (State.takeSetup s).journal.live = s.journal.live
     ∧ (State.takeSetup s).read.dev = s.read.dev ∧ (State.takeSetup s).read.snapshot = s.read.snapshot
     ∧ (State.takeSetup s).window.lastMark = s.window.lastMark ∧ (State.takeSetup s).window.result = s.window.result
     ∧ (State.takeSetup s).window.done = s.window.done ∧ (State.takeSetup s).window.completion = s.window.completion
     ∧ (State.takeSetup s).down.clears = s.down.clears ∧ (State.takeSetup s).pending = s.pending := by
  and_intros <;> unfold State.takeSetup <;> (try dsimp only) <;> (repeat' split) <;> first | (simp <;> done) | rfl

@[simp] theorem State.takeClosing_leaves (s : State) :
    (State.takeClosing s).inReset = s.inReset ∧ (State.takeClosing s).setup.straps = s.setup.straps
     ∧ (State.takeClosing s).store = s.store ∧ (State.takeClosing s).queue.sealed = s.queue.sealed
     ∧ (State.takeClosing s).queue.lost = s.queue.lost ∧ (State.takeClosing s).engine.pointer = s.engine.pointer
     ∧ (State.takeClosing s).engine.attempts = s.engine.attempts
     ∧ (State.takeClosing s).engine.pauseRequested = s.engine.pauseRequested
     ∧ (State.takeClosing s).journal.head = s.journal.head ∧ (State.takeClosing s).journal.nextSeq = s.journal.nextSeq
     ∧ (State.takeClosing s).journal.lastSeq = s.journal.lastSeq
     ∧ (State.takeClosing s).journal.lastTag = s.journal.lastTag ∧ (State.takeClosing s).journal.live = s.journal.live
     ∧ (State.takeClosing s).read.dev = s.read.dev ∧ (State.takeClosing s).read.snapshot = s.read.snapshot
     ∧ (State.takeClosing s).window.lastMark = s.window.lastMark
     ∧ (State.takeClosing s).window.result = s.window.result ∧ (State.takeClosing s).window.done = s.window.done
     ∧ (State.takeClosing s).window.completion = s.window.completion
     ∧ (State.takeClosing s).down.clears = s.down.clears ∧ (State.takeClosing s).pending = s.pending := by
  and_intros <;> unfold State.takeClosing <;> (try dsimp only) <;> (repeat' split) <;> first | (simp <;> done) | rfl

@[simp] theorem State.elapse_leaves (s : State) :
    (State.elapse s).inReset = s.inReset ∧ (State.elapse s).setup.straps = s.setup.straps
     ∧ (State.elapse s).store = s.store ∧ (State.elapse s).queue.sealed = s.queue.sealed
     ∧ (State.elapse s).queue.lost = s.queue.lost ∧ (State.elapse s).engine.pointer = s.engine.pointer
     ∧ (State.elapse s).engine.attempts = s.engine.attempts
     ∧ (State.elapse s).engine.pauseRequested = s.engine.pauseRequested
     ∧ (State.elapse s).journal.head = s.journal.head ∧ (State.elapse s).journal.nextSeq = s.journal.nextSeq
     ∧ (State.elapse s).journal.lastSeq = s.journal.lastSeq ∧ (State.elapse s).journal.lastTag = s.journal.lastTag
     ∧ (State.elapse s).journal.live = s.journal.live ∧ (State.elapse s).read.dev = s.read.dev
     ∧ (State.elapse s).read.snapshot = s.read.snapshot ∧ (State.elapse s).window.lastMark = s.window.lastMark
     ∧ (State.elapse s).window.result = s.window.result ∧ (State.elapse s).window.done = s.window.done
     ∧ (State.elapse s).window.completion = s.window.completion ∧ (State.elapse s).down.clears = s.down.clears
     ∧ (State.elapse s).pending = s.pending := by
  and_intros <;> unfold State.elapse <;> (try dsimp only) <;> (repeat' split) <;> first | (simp <;> done) | rfl

end Sys2Proof.Machine
end

