-- ==== Sys2Proof/Laws/Events.lean ====
section
/-! SUPPORT. What each operation of marks, frame ends, bytes, polls, transfers and bus clears leaves as it is. -/

namespace Sys2Proof.Machine

@[simp] theorem markDiscard_leaves (s : State) :
    (markDiscard s).1.inReset = s.inReset ∧ (markDiscard s).1.setup = s.setup ∧ (markDiscard s).1.store = s.store
     ∧ (markDiscard s).1.queue.sealed = s.queue.sealed ∧ (markDiscard s).1.engine = s.engine
     ∧ (markDiscard s).1.journal = s.journal ∧ (markDiscard s).1.read = s.read ∧ (markDiscard s).1.forward = s.forward
     ∧ (markDiscard s).1.window = s.window ∧ (markDiscard s).1.port = s.port ∧ (markDiscard s).1.relay = s.relay
     ∧ (markDiscard s).1.down = s.down ∧ (markDiscard s).1.freeIndex = s.freeIndex
     ∧ (markDiscard s).1.pending = s.pending := by
  and_intros <;> unfold markDiscard <;> (try dsimp only) <;> (repeat' split) <;> first | (simp <;> done) | rfl

@[simp] theorem markSeal_leaves (tag : Byte) (s : State) :
    (markSeal tag s).1.inReset = s.inReset ∧ (markSeal tag s).1.setup = s.setup ∧ (markSeal tag s).1.store = s.store
     ∧ (markSeal tag s).1.queue.lost = s.queue.lost
     ∧ (markSeal tag s).1.engine.pauseRequested = s.engine.pauseRequested
     ∧ (markSeal tag s).1.engine.faultCode = s.engine.faultCode
     ∧ (markSeal tag s).1.engine.faultDevice = s.engine.faultDevice ∧ (markSeal tag s).1.journal.head = s.journal.head
     ∧ (markSeal tag s).1.journal.lastSeq = s.journal.lastSeq ∧ (markSeal tag s).1.journal.lastTag = s.journal.lastTag
     ∧ (markSeal tag s).1.journal.scan = s.journal.scan ∧ (markSeal tag s).1.read = s.read
     ∧ (markSeal tag s).1.forward = s.forward ∧ (markSeal tag s).1.window = s.window
     ∧ (markSeal tag s).1.port = s.port ∧ (markSeal tag s).1.relay = s.relay
     ∧ (markSeal tag s).1.down.upFifo = s.down.upFifo ∧ (markSeal tag s).1.down.grant = s.down.grant
     ∧ (markSeal tag s).1.down.fairness = s.down.fairness ∧ (markSeal tag s).1.down.states = s.down.states
     ∧ (markSeal tag s).1.down.poll = s.down.poll ∧ (markSeal tag s).1.down.detections = s.down.detections
     ∧ (markSeal tag s).1.down.clears = s.down.clears ∧ (markSeal tag s).1.down.clearing = s.down.clearing
     ∧ (markSeal tag s).1.down.ended = s.down.ended ∧ (markSeal tag s).1.down.speed = s.down.speed
     ∧ (markSeal tag s).1.down.activity = s.down.activity ∧ (markSeal tag s).1.freeIndex = s.freeIndex
     ∧ (markSeal tag s).1.pending = s.pending := by
  and_intros <;> unfold markSeal <;> (try dsimp only) <;> (repeat' split) <;> first | (simp <;> done) | rfl

@[simp] theorem State.leaveHalted_leaves (s : State) :
    (State.leaveHalted s).inReset = s.inReset ∧ (State.leaveHalted s).setup = s.setup
     ∧ (State.leaveHalted s).store = s.store ∧ (State.leaveHalted s).queue.openGroup = s.queue.openGroup
     ∧ (State.leaveHalted s).queue.lost = s.queue.lost
     ∧ (State.leaveHalted s).engine.pauseRequested = s.engine.pauseRequested
     ∧ (State.leaveHalted s).journal.head = s.journal.head ∧ (State.leaveHalted s).journal.nextSeq = s.journal.nextSeq
     ∧ (State.leaveHalted s).journal.lastSeq = s.journal.lastSeq
     ∧ (State.leaveHalted s).journal.lastTag = s.journal.lastTag ∧ (State.leaveHalted s).journal.scan = s.journal.scan
     ∧ (State.leaveHalted s).read = s.read ∧ (State.leaveHalted s).forward = s.forward
     ∧ (State.leaveHalted s).window = s.window ∧ (State.leaveHalted s).port = s.port
     ∧ (State.leaveHalted s).relay = s.relay ∧ (State.leaveHalted s).down.upFifo = s.down.upFifo
     ∧ (State.leaveHalted s).down.grant = s.down.grant ∧ (State.leaveHalted s).down.fairness = s.down.fairness
     ∧ (State.leaveHalted s).down.states = s.down.states ∧ (State.leaveHalted s).down.poll = s.down.poll
     ∧ (State.leaveHalted s).down.detections = s.down.detections ∧ (State.leaveHalted s).down.clears = s.down.clears
     ∧ (State.leaveHalted s).down.clearing = s.down.clearing ∧ (State.leaveHalted s).down.ended = s.down.ended
     ∧ (State.leaveHalted s).down.speed = s.down.speed ∧ (State.leaveHalted s).down.activity = s.down.activity
     ∧ (State.leaveHalted s).freeIndex = s.freeIndex ∧ (State.leaveHalted s).pending = s.pending := by
  and_intros <;> unfold State.leaveHalted <;> (try dsimp only) <;> (repeat' split) <;> first | (simp <;> done) | rfl

@[simp] theorem markRetry_leaves (s : State) :
    (markRetry s).1.inReset = s.inReset ∧ (markRetry s).1.setup = s.setup ∧ (markRetry s).1.store = s.store
     ∧ (markRetry s).1.queue.openGroup = s.queue.openGroup ∧ (markRetry s).1.queue.lost = s.queue.lost
     ∧ (markRetry s).1.engine.pauseRequested = s.engine.pauseRequested ∧ (markRetry s).1.journal.head = s.journal.head
     ∧ (markRetry s).1.journal.nextSeq = s.journal.nextSeq ∧ (markRetry s).1.journal.lastSeq = s.journal.lastSeq
     ∧ (markRetry s).1.journal.lastTag = s.journal.lastTag ∧ (markRetry s).1.journal.scan = s.journal.scan
     ∧ (markRetry s).1.read = s.read ∧ (markRetry s).1.forward = s.forward ∧ (markRetry s).1.window = s.window
     ∧ (markRetry s).1.port = s.port ∧ (markRetry s).1.relay = s.relay ∧ (markRetry s).1.down.upFifo = s.down.upFifo
     ∧ (markRetry s).1.down.grant = s.down.grant ∧ (markRetry s).1.down.fairness = s.down.fairness
     ∧ (markRetry s).1.down.poll = s.down.poll ∧ (markRetry s).1.down.detections = s.down.detections
     ∧ (markRetry s).1.down.clears = s.down.clears ∧ (markRetry s).1.down.clearing = s.down.clearing
     ∧ (markRetry s).1.down.ended = s.down.ended ∧ (markRetry s).1.down.speed = s.down.speed
     ∧ (markRetry s).1.down.activity = s.down.activity ∧ (markRetry s).1.freeIndex = s.freeIndex
     ∧ (markRetry s).1.pending = s.pending := by
  and_intros <;> unfold markRetry <;> (try dsimp only) <;> (repeat' split) <;> first | (simp <;> done) | rfl

@[simp] theorem markPause_leaves (s : State) :
    (markPause s).1.inReset = s.inReset ∧ (markPause s).1.setup = s.setup ∧ (markPause s).1.store = s.store
     ∧ (markPause s).1.queue = s.queue ∧ (markPause s).1.engine.pointer = s.engine.pointer
     ∧ (markPause s).1.engine.faultCode = s.engine.faultCode
     ∧ (markPause s).1.engine.faultDevice = s.engine.faultDevice ∧ (markPause s).1.journal = s.journal
     ∧ (markPause s).1.read = s.read ∧ (markPause s).1.forward = s.forward ∧ (markPause s).1.window = s.window
     ∧ (markPause s).1.port = s.port ∧ (markPause s).1.relay = s.relay ∧ (markPause s).1.down = s.down
     ∧ (markPause s).1.freeIndex = s.freeIndex ∧ (markPause s).1.pending = s.pending := by
  and_intros <;> unfold markPause <;> (try dsimp only) <;> (repeat' split) <;> first | (simp <;> done) | rfl

@[simp] theorem markResume_leaves (s : State) :
    (markResume s).1.inReset = s.inReset ∧ (markResume s).1.setup = s.setup ∧ (markResume s).1.store = s.store
     ∧ (markResume s).1.queue.openGroup = s.queue.openGroup ∧ (markResume s).1.queue.lost = s.queue.lost
     ∧ (markResume s).1.engine.faultCode = s.engine.faultCode
     ∧ (markResume s).1.engine.faultDevice = s.engine.faultDevice ∧ (markResume s).1.journal.head = s.journal.head
     ∧ (markResume s).1.journal.nextSeq = s.journal.nextSeq ∧ (markResume s).1.journal.lastSeq = s.journal.lastSeq
     ∧ (markResume s).1.journal.lastTag = s.journal.lastTag ∧ (markResume s).1.journal.scan = s.journal.scan
     ∧ (markResume s).1.read = s.read ∧ (markResume s).1.forward = s.forward ∧ (markResume s).1.window = s.window
     ∧ (markResume s).1.port = s.port ∧ (markResume s).1.relay = s.relay
     ∧ (markResume s).1.down.upFifo = s.down.upFifo ∧ (markResume s).1.down.grant = s.down.grant
     ∧ (markResume s).1.down.fairness = s.down.fairness ∧ (markResume s).1.down.states = s.down.states
     ∧ (markResume s).1.down.poll = s.down.poll ∧ (markResume s).1.down.detections = s.down.detections
     ∧ (markResume s).1.down.clears = s.down.clears ∧ (markResume s).1.down.clearing = s.down.clearing
     ∧ (markResume s).1.down.ended = s.down.ended ∧ (markResume s).1.down.speed = s.down.speed
     ∧ (markResume s).1.down.activity = s.down.activity ∧ (markResume s).1.freeIndex = s.freeIndex
     ∧ (markResume s).1.pending = s.pending := by
  and_intros <;> unfold markResume <;> (try dsimp only) <;> (repeat' split) <;> first | (simp <;> done) | rfl

@[simp] theorem markClear_leaves (s : State) :
    (markClear s).1.inReset = s.inReset ∧ (markClear s).1.setup = s.setup ∧ (markClear s).1.store = s.store
     ∧ (markClear s).1.queue = s.queue ∧ (markClear s).1.engine = s.engine ∧ (markClear s).1.journal = s.journal
     ∧ (markClear s).1.read = s.read ∧ (markClear s).1.forward = s.forward
     ∧ (markClear s).1.window.lastMark = s.window.lastMark ∧ (markClear s).1.window.result = s.window.result
     ∧ (markClear s).1.window.completion = s.window.completion ∧ (markClear s).1.port = s.port
     ∧ (markClear s).1.relay = s.relay ∧ (markClear s).1.down = s.down ∧ (markClear s).1.freeIndex = s.freeIndex
     ∧ (markClear s).1.pending = s.pending := by
  and_intros <;> unfold markClear <;> (try dsimp only) <;> (repeat' split) <;> first | (simp <;> done) | rfl

@[simp] theorem markInvalid_leaves (s : State) :
    (markInvalid s).1.inReset = s.inReset ∧ (markInvalid s).1.setup = s.setup ∧ (markInvalid s).1.store = s.store
     ∧ (markInvalid s).1.queue = s.queue ∧ (markInvalid s).1.engine = s.engine ∧ (markInvalid s).1.journal = s.journal
     ∧ (markInvalid s).1.read = s.read ∧ (markInvalid s).1.forward = s.forward ∧ (markInvalid s).1.window = s.window
     ∧ (markInvalid s).1.port = s.port ∧ (markInvalid s).1.relay = s.relay ∧ (markInvalid s).1.down = s.down
     ∧ (markInvalid s).1.freeIndex = s.freeIndex ∧ (markInvalid s).1.pending = s.pending := by
  and_intros <;> unfold markInvalid <;> (try dsimp only) <;> (repeat' split) <;> first | (simp <;> done) | rfl

@[simp] theorem markEffect_leaves (v : Byte) (s : State) :
    (markEffect v s).1.inReset = s.inReset ∧ (markEffect v s).1.setup = s.setup ∧ (markEffect v s).1.store = s.store
     ∧ (markEffect v s).1.journal.head = s.journal.head ∧ (markEffect v s).1.journal.lastSeq = s.journal.lastSeq
     ∧ (markEffect v s).1.journal.lastTag = s.journal.lastTag ∧ (markEffect v s).1.journal.scan = s.journal.scan
     ∧ (markEffect v s).1.read = s.read ∧ (markEffect v s).1.forward = s.forward
     ∧ (markEffect v s).1.window.lastMark = s.window.lastMark ∧ (markEffect v s).1.window.result = s.window.result
     ∧ (markEffect v s).1.window.completion = s.window.completion ∧ (markEffect v s).1.port = s.port
     ∧ (markEffect v s).1.relay = s.relay ∧ (markEffect v s).1.down.upFifo = s.down.upFifo
     ∧ (markEffect v s).1.down.grant = s.down.grant ∧ (markEffect v s).1.down.fairness = s.down.fairness
     ∧ (markEffect v s).1.down.poll = s.down.poll ∧ (markEffect v s).1.down.detections = s.down.detections
     ∧ (markEffect v s).1.down.clears = s.down.clears ∧ (markEffect v s).1.down.clearing = s.down.clearing
     ∧ (markEffect v s).1.down.ended = s.down.ended ∧ (markEffect v s).1.down.speed = s.down.speed
     ∧ (markEffect v s).1.down.activity = s.down.activity ∧ (markEffect v s).1.freeIndex = s.freeIndex
     ∧ (markEffect v s).1.pending = s.pending := by
  and_intros <;> unfold markEffect <;> (try dsimp only) <;> (repeat' split) <;> first | (simp <;> done) | rfl

@[simp] theorem State.actOnMark_leaves (v : Byte) (s : State) :
    (State.actOnMark v s).inReset = s.inReset ∧ (State.actOnMark v s).setup = s.setup
     ∧ (State.actOnMark v s).store = s.store ∧ (State.actOnMark v s).journal.head = s.journal.head
     ∧ (State.actOnMark v s).journal.lastSeq = s.journal.lastSeq
     ∧ (State.actOnMark v s).journal.lastTag = s.journal.lastTag ∧ (State.actOnMark v s).journal.scan = s.journal.scan
     ∧ (State.actOnMark v s).read = s.read ∧ (State.actOnMark v s).forward = s.forward
     ∧ (State.actOnMark v s).window.completion = s.window.completion ∧ (State.actOnMark v s).port = s.port
     ∧ (State.actOnMark v s).relay = s.relay ∧ (State.actOnMark v s).down.upFifo = s.down.upFifo
     ∧ (State.actOnMark v s).down.grant = s.down.grant ∧ (State.actOnMark v s).down.fairness = s.down.fairness
     ∧ (State.actOnMark v s).down.poll = s.down.poll ∧ (State.actOnMark v s).down.detections = s.down.detections
     ∧ (State.actOnMark v s).down.clears = s.down.clears ∧ (State.actOnMark v s).down.clearing = s.down.clearing
     ∧ (State.actOnMark v s).down.ended = s.down.ended ∧ (State.actOnMark v s).down.speed = s.down.speed
     ∧ (State.actOnMark v s).down.activity = s.down.activity ∧ (State.actOnMark v s).freeIndex = s.freeIndex
     ∧ (State.actOnMark v s).pending = s.pending := by
  and_intros <;> unfold State.actOnMark <;> (try dsimp only) <;> (repeat' split) <;> first | (simp <;> done) | rfl

@[simp] theorem State.reportRelay_leaves (r : Relay) (s : State) :
    (State.reportRelay r s).inReset = s.inReset ∧ (State.reportRelay r s).store = s.store
     ∧ (State.reportRelay r s).queue = s.queue ∧ (State.reportRelay r s).engine = s.engine
     ∧ (State.reportRelay r s).journal = s.journal ∧ (State.reportRelay r s).read = s.read
     ∧ (State.reportRelay r s).forward = s.forward ∧ (State.reportRelay r s).window = s.window
     ∧ (State.reportRelay r s).port = s.port ∧ (State.reportRelay r s).relay = s.relay
     ∧ (State.reportRelay r s).down = s.down ∧ (State.reportRelay r s).freeIndex = s.freeIndex
     ∧ (State.reportRelay r s).pending = s.pending := by
  and_intros <;> unfold State.reportRelay <;> (try dsimp only) <;> (repeat' split) <;> first | (simp <;> done) | rfl

@[simp] theorem State.closeRelay_leaves (report : Bool) (s : State) :
    (State.closeRelay report s).inReset = s.inReset ∧ (State.closeRelay report s).store = s.store
     ∧ (State.closeRelay report s).queue = s.queue ∧ (State.closeRelay report s).engine = s.engine
     ∧ (State.closeRelay report s).journal = s.journal ∧ (State.closeRelay report s).read = s.read
     ∧ (State.closeRelay report s).forward = s.forward ∧ (State.closeRelay report s).window = s.window
     ∧ (State.closeRelay report s).port = s.port ∧ (State.closeRelay report s).down.intReqs = s.down.intReqs
     ∧ (State.closeRelay report s).down.fairness = s.down.fairness
     ∧ (State.closeRelay report s).down.states = s.down.states
     ∧ (State.closeRelay report s).down.detections = s.down.detections
     ∧ (State.closeRelay report s).down.clears = s.down.clears ∧ (State.closeRelay report s).down.speed = s.down.speed
     ∧ (State.closeRelay report s).freeIndex = s.freeIndex ∧ (State.closeRelay report s).pending = s.pending := by
  and_intros <;> unfold State.closeRelay State.leaveRelay <;> (try dsimp only) <;> (repeat' split) <;> first | (simp <;> done) | rfl

@[simp] theorem State.windUpRelay_leaves (s : State) :
    (State.windUpRelay s).inReset = s.inReset ∧ (State.windUpRelay s).setup = s.setup
     ∧ (State.windUpRelay s).store = s.store ∧ (State.windUpRelay s).queue = s.queue
     ∧ (State.windUpRelay s).engine = s.engine ∧ (State.windUpRelay s).journal = s.journal
     ∧ (State.windUpRelay s).read = s.read ∧ (State.windUpRelay s).forward = s.forward
     ∧ (State.windUpRelay s).window = s.window ∧ (State.windUpRelay s).port = s.port
     ∧ (State.windUpRelay s).down.intReqs = s.down.intReqs ∧ (State.windUpRelay s).down.fairness = s.down.fairness
     ∧ (State.windUpRelay s).down.states = s.down.states ∧ (State.windUpRelay s).down.detections = s.down.detections
     ∧ (State.windUpRelay s).down.clears = s.down.clears ∧ (State.windUpRelay s).down.speed = s.down.speed
     ∧ (State.windUpRelay s).freeIndex = s.freeIndex ∧ (State.windUpRelay s).pending = s.pending := by
  and_intros <;> unfold State.windUpRelay State.leaveRelay <;> (try dsimp only) <;> (repeat' split) <;> first | (simp <;> done) | rfl

@[simp] theorem State.endRelay_leaves (k : EndKind) (f : Frame) (s : State) :
    (State.endRelay k f s).inReset = s.inReset ∧ (State.endRelay k f s).store = s.store
     ∧ (State.endRelay k f s).queue = s.queue ∧ (State.endRelay k f s).engine = s.engine
     ∧ (State.endRelay k f s).journal = s.journal ∧ (State.endRelay k f s).read = s.read
     ∧ (State.endRelay k f s).forward = s.forward ∧ (State.endRelay k f s).window = s.window
     ∧ (State.endRelay k f s).port = s.port ∧ (State.endRelay k f s).down.intReqs = s.down.intReqs
     ∧ (State.endRelay k f s).down.fairness = s.down.fairness ∧ (State.endRelay k f s).down.states = s.down.states
     ∧ (State.endRelay k f s).down.detections = s.down.detections ∧ (State.endRelay k f s).down.clears = s.down.clears
     ∧ (State.endRelay k f s).down.speed = s.down.speed ∧ (State.endRelay k f s).freeIndex = s.freeIndex
     ∧ (State.endRelay k f s).pending = s.pending := by
  and_intros <;> unfold State.endRelay <;> (try dsimp only) <;> (repeat' split) <;> first | (simp <;> done) | rfl

@[simp] theorem State.windUpRead_leaves (s : State) :
    (State.windUpRead s).inReset = s.inReset ∧ (State.windUpRead s).setup = s.setup
     ∧ (State.windUpRead s).store = s.store ∧ (State.windUpRead s).queue = s.queue
     ∧ (State.windUpRead s).engine = s.engine ∧ (State.windUpRead s).journal = s.journal
     ∧ (State.windUpRead s).read = s.read ∧ (State.windUpRead s).forward = s.forward
     ∧ (State.windUpRead s).window = s.window ∧ (State.windUpRead s).port = s.port
     ∧ (State.windUpRead s).relay = s.relay ∧ (State.windUpRead s).down.upFifo = s.down.upFifo
     ∧ (State.windUpRead s).down.intReqs = s.down.intReqs ∧ (State.windUpRead s).down.fairness = s.down.fairness
     ∧ (State.windUpRead s).down.states = s.down.states ∧ (State.windUpRead s).down.detections = s.down.detections
     ∧ (State.windUpRead s).down.clears = s.down.clears ∧ (State.windUpRead s).down.speed = s.down.speed
     ∧ (State.windUpRead s).freeIndex = s.freeIndex ∧ (State.windUpRead s).pending = s.pending := by
  and_intros <;> unfold State.windUpRead <;> (try dsimp only) <;> (repeat' split) <;> first | (simp <;> done) | rfl

@[simp] theorem State.endRead_leaves (s : State) :
    (State.endRead s).inReset = s.inReset ∧ (State.endRead s).setup = s.setup ∧ (State.endRead s).store = s.store
     ∧ (State.endRead s).queue = s.queue ∧ (State.endRead s).engine = s.engine ∧ (State.endRead s).journal = s.journal
     ∧ (State.endRead s).read.dev = s.read.dev ∧ (State.endRead s).forward = s.forward
     ∧ (State.endRead s).window = s.window ∧ (State.endRead s).port = s.port ∧ (State.endRead s).relay = s.relay
     ∧ (State.endRead s).down.intReqs = s.down.intReqs ∧ (State.endRead s).down.fairness = s.down.fairness
     ∧ (State.endRead s).down.states = s.down.states ∧ (State.endRead s).down.detections = s.down.detections
     ∧ (State.endRead s).down.clears = s.down.clears ∧ (State.endRead s).down.speed = s.down.speed
     ∧ (State.endRead s).freeIndex = s.freeIndex ∧ (State.endRead s).pending = s.pending := by
  and_intros <;> unfold State.endRead <;> (try dsimp only) <;> (repeat' split) <;> first | (simp <;> done) | rfl

@[simp] theorem State.endPosted_leaves (queued : Bool) (s : State) :
    (State.endPosted queued s).inReset = s.inReset ∧ (State.endPosted queued s).setup = s.setup
     ∧ (State.endPosted queued s).store = s.store ∧ (State.endPosted queued s).queue = s.queue
     ∧ (State.endPosted queued s).engine = s.engine ∧ (State.endPosted queued s).journal = s.journal
     ∧ (State.endPosted queued s).read = s.read ∧ (State.endPosted queued s).window = s.window
     ∧ (State.endPosted queued s).port = s.port ∧ (State.endPosted queued s).relay = s.relay
     ∧ (State.endPosted queued s).down.intReqs = s.down.intReqs ∧ (State.endPosted queued s).down.grant = s.down.grant
     ∧ (State.endPosted queued s).down.fairness = s.down.fairness
     ∧ (State.endPosted queued s).down.states = s.down.states ∧ (State.endPosted queued s).down.poll = s.down.poll
     ∧ (State.endPosted queued s).down.detections = s.down.detections
     ∧ (State.endPosted queued s).down.clears = s.down.clears
     ∧ (State.endPosted queued s).down.clearing = s.down.clearing
     ∧ (State.endPosted queued s).down.ended = s.down.ended ∧ (State.endPosted queued s).down.speed = s.down.speed
     ∧ (State.endPosted queued s).down.activity = s.down.activity ∧ (State.endPosted queued s).freeIndex = s.freeIndex
     ∧ (State.endPosted queued s).pending = s.pending := by
  and_intros <;> unfold State.endPosted <;> (try dsimp only) <;> (repeat' split) <;> first | (simp <;> done) | rfl

@[simp] theorem State.endBlock_leaves (k : EndKind) (f : Frame) (s : State) :
    (State.endBlock k f s).inReset = s.inReset ∧ (State.endBlock k f s).setup = s.setup
     ∧ (State.endBlock k f s).store.claims = s.store.claims ∧ (State.endBlock k f s).queue.sealed = s.queue.sealed
     ∧ (State.endBlock k f s).queue.lost = s.queue.lost ∧ (State.endBlock k f s).engine = s.engine
     ∧ (State.endBlock k f s).journal = s.journal ∧ (State.endBlock k f s).read.dev = s.read.dev
     ∧ (State.endBlock k f s).window = s.window ∧ (State.endBlock k f s).port = s.port
     ∧ (State.endBlock k f s).relay = s.relay ∧ (State.endBlock k f s).down.intReqs = s.down.intReqs
     ∧ (State.endBlock k f s).down.fairness = s.down.fairness ∧ (State.endBlock k f s).down.states = s.down.states
     ∧ (State.endBlock k f s).down.detections = s.down.detections ∧ (State.endBlock k f s).down.clears = s.down.clears
     ∧ (State.endBlock k f s).down.speed = s.down.speed ∧ (State.endBlock k f s).freeIndex = s.freeIndex
     ∧ (State.endBlock k f s).pending = s.pending := by
  and_intros <;> unfold State.endBlock <;> (try dsimp only) <;> (repeat' split) <;> first | (simp <;> done) | rfl

@[simp] theorem State.endFrame_leaves (k : EndKind) (s : State) :
    (State.endFrame k s).inReset = s.inReset ∧ (State.endFrame k s).store.claims = s.store.claims
     ∧ (State.endFrame k s).journal.head = s.journal.head ∧ (State.endFrame k s).journal.lastSeq = s.journal.lastSeq
     ∧ (State.endFrame k s).journal.lastTag = s.journal.lastTag ∧ (State.endFrame k s).journal.scan = s.journal.scan
     ∧ (State.endFrame k s).read.dev = s.read.dev ∧ (State.endFrame k s).window.completion = s.window.completion
     ∧ (State.endFrame k s).port.gate = s.port.gate ∧ (State.endFrame k s).port.pointers = s.port.pointers
     ∧ (State.endFrame k s).down.fairness = s.down.fairness ∧ (State.endFrame k s).down.detections = s.down.detections
     ∧ (State.endFrame k s).down.clears = s.down.clears ∧ (State.endFrame k s).down.speed = s.down.speed
     ∧ (State.endFrame k s).freeIndex = s.freeIndex ∧ (State.endFrame k s).pending = s.pending := by
  and_intros <;> unfold State.endFrame <;> (try dsimp only) <;> (repeat' split) <;> first | (simp <;> done) | rfl

@[simp] theorem State.concludeFrame_leaves (k : EndKind) (s : State) :
    (State.concludeFrame k s).inReset = s.inReset ∧ (State.concludeFrame k s).store.claims = s.store.claims
     ∧ (State.concludeFrame k s).journal.head = s.journal.head
     ∧ (State.concludeFrame k s).journal.lastSeq = s.journal.lastSeq
     ∧ (State.concludeFrame k s).journal.lastTag = s.journal.lastTag ∧ (State.concludeFrame k s).read.dev = s.read.dev
     ∧ (State.concludeFrame k s).window.completion = s.window.completion
     ∧ (State.concludeFrame k s).down.clears = s.down.clears ∧ (State.concludeFrame k s).pending = s.pending := by
  and_intros <;> unfold State.concludeFrame <;> (try dsimp only) <;> (repeat' split) <;> first | (simp <;> done) | rfl

@[simp] theorem State.woundUpRead_leaves (s : State) :
    (State.woundUpRead s).inReset = s.inReset ∧ (State.woundUpRead s).setup = s.setup
     ∧ (State.woundUpRead s).store = s.store ∧ (State.woundUpRead s).queue = s.queue
     ∧ (State.woundUpRead s).engine = s.engine ∧ (State.woundUpRead s).journal = s.journal
     ∧ (State.woundUpRead s).read = s.read ∧ (State.woundUpRead s).forward = s.forward
     ∧ (State.woundUpRead s).window = s.window ∧ (State.woundUpRead s).port = s.port
     ∧ (State.woundUpRead s).relay = s.relay ∧ (State.woundUpRead s).down.intReqs = s.down.intReqs
     ∧ (State.woundUpRead s).down.grant = s.down.grant ∧ (State.woundUpRead s).down.fairness = s.down.fairness
     ∧ (State.woundUpRead s).down.states = s.down.states ∧ (State.woundUpRead s).down.poll = s.down.poll
     ∧ (State.woundUpRead s).down.detections = s.down.detections ∧ (State.woundUpRead s).down.clears = s.down.clears
     ∧ (State.woundUpRead s).down.clearing = s.down.clearing ∧ (State.woundUpRead s).down.ended = s.down.ended
     ∧ (State.woundUpRead s).down.speed = s.down.speed ∧ (State.woundUpRead s).down.activity = s.down.activity
     ∧ (State.woundUpRead s).freeIndex = s.freeIndex ∧ (State.woundUpRead s).pending = s.pending := by
  and_intros <;> unfold State.woundUpRead <;> (try dsimp only) <;> (repeat' split) <;> first | (simp <;> done) | rfl

@[simp] theorem State.expireHoldA_leaves (f : Frame) (s : State) :
    (State.expireHoldA f s).inReset = s.inReset ∧ (State.expireHoldA f s).setup = s.setup
     ∧ (State.expireHoldA f s).store = s.store ∧ (State.expireHoldA f s).queue = s.queue
     ∧ (State.expireHoldA f s).engine = s.engine ∧ (State.expireHoldA f s).journal = s.journal
     ∧ (State.expireHoldA f s).read.dev = s.read.dev ∧ (State.expireHoldA f s).read.snapshot = s.read.snapshot
     ∧ (State.expireHoldA f s).forward = s.forward ∧ (State.expireHoldA f s).window = s.window
     ∧ (State.expireHoldA f s).port.gate = s.port.gate ∧ (State.expireHoldA f s).port.pointers = s.port.pointers
     ∧ (State.expireHoldA f s).port.sent = s.port.sent ∧ (State.expireHoldA f s).down.intReqs = s.down.intReqs
     ∧ (State.expireHoldA f s).down.fairness = s.down.fairness ∧ (State.expireHoldA f s).down.states = s.down.states
     ∧ (State.expireHoldA f s).down.detections = s.down.detections
     ∧ (State.expireHoldA f s).down.clears = s.down.clears ∧ (State.expireHoldA f s).down.speed = s.down.speed
     ∧ (State.expireHoldA f s).freeIndex = s.freeIndex ∧ (State.expireHoldA f s).pending = s.pending := by
  and_intros <;> unfold State.expireHoldA <;> (try dsimp only) <;> (repeat' split) <;> first | (simp <;> done) | rfl

@[simp] theorem State.fillRelay_leaves (s : State) :
    (State.fillRelay s).inReset = s.inReset ∧ (State.fillRelay s).setup = s.setup
     ∧ (State.fillRelay s).store = s.store ∧ (State.fillRelay s).queue = s.queue
     ∧ (State.fillRelay s).engine = s.engine ∧ (State.fillRelay s).journal = s.journal
     ∧ (State.fillRelay s).read = s.read ∧ (State.fillRelay s).forward = s.forward
     ∧ (State.fillRelay s).window = s.window ∧ (State.fillRelay s).port.gate = s.port.gate
     ∧ (State.fillRelay s).port.pointers = s.port.pointers ∧ (State.fillRelay s).port.answer = s.port.answer
     ∧ (State.fillRelay s).down.intReqs = s.down.intReqs ∧ (State.fillRelay s).down.fairness = s.down.fairness
     ∧ (State.fillRelay s).down.states = s.down.states ∧ (State.fillRelay s).down.detections = s.down.detections
     ∧ (State.fillRelay s).down.clears = s.down.clears ∧ (State.fillRelay s).down.speed = s.down.speed
     ∧ (State.fillRelay s).freeIndex = s.freeIndex ∧ (State.fillRelay s).pending = s.pending := by
  and_intros <;> unfold State.fillRelay <;> (try dsimp only) <;> (repeat' split) <;> first | (simp <;> done) | rfl

@[simp] theorem State.classFrame_leaves (b : Byte) (c : FrameClass) (dev : Option Nat) (s : State) :
    (State.classFrame b c dev s).inReset = s.inReset ∧ (State.classFrame b c dev s).setup = s.setup
     ∧ (State.classFrame b c dev s).store = s.store ∧ (State.classFrame b c dev s).queue = s.queue
     ∧ (State.classFrame b c dev s).engine = s.engine ∧ (State.classFrame b c dev s).journal = s.journal
     ∧ (State.classFrame b c dev s).read = s.read ∧ (State.classFrame b c dev s).forward = s.forward
     ∧ (State.classFrame b c dev s).window = s.window ∧ (State.classFrame b c dev s).port.gate = s.port.gate
     ∧ (State.classFrame b c dev s).port.hold = s.port.hold
     ∧ (State.classFrame b c dev s).port.holdTimer = s.port.holdTimer
     ∧ (State.classFrame b c dev s).port.idleTimer = s.port.idleTimer
     ∧ (State.classFrame b c dev s).port.pointers = s.port.pointers
     ∧ (State.classFrame b c dev s).port.answer = s.port.answer ∧ (State.classFrame b c dev s).port.sent = s.port.sent
     ∧ (State.classFrame b c dev s).relay = s.relay ∧ (State.classFrame b c dev s).down = s.down
     ∧ (State.classFrame b c dev s).freeIndex = s.freeIndex ∧ (State.classFrame b c dev s).pending = s.pending := by
  and_intros <;> unfold State.classFrame <;> (try dsimp only) <;> (repeat' split) <;> first | (simp <;> done) | rfl

@[simp] theorem State.deviceByteRefused_leaves (b : Byte) (s : State) :
    (State.deviceByteRefused b s).inReset = s.inReset ∧ (State.deviceByteRefused b s).setup = s.setup
     ∧ (State.deviceByteRefused b s).store = s.store ∧ (State.deviceByteRefused b s).queue = s.queue
     ∧ (State.deviceByteRefused b s).engine = s.engine ∧ (State.deviceByteRefused b s).journal = s.journal
     ∧ (State.deviceByteRefused b s).read = s.read ∧ (State.deviceByteRefused b s).forward = s.forward
     ∧ (State.deviceByteRefused b s).window = s.window ∧ (State.deviceByteRefused b s).port.gate = s.port.gate
     ∧ (State.deviceByteRefused b s).port.hold = s.port.hold
     ∧ (State.deviceByteRefused b s).port.holdTimer = s.port.holdTimer
     ∧ (State.deviceByteRefused b s).port.idleTimer = s.port.idleTimer
     ∧ (State.deviceByteRefused b s).port.pointers = s.port.pointers
     ∧ (State.deviceByteRefused b s).port.sent = s.port.sent ∧ (State.deviceByteRefused b s).relay = s.relay
     ∧ (State.deviceByteRefused b s).down = s.down ∧ (State.deviceByteRefused b s).freeIndex = s.freeIndex
     ∧ (State.deviceByteRefused b s).pending = s.pending := by
  and_intros <;> unfold State.deviceByteRefused <;> (try dsimp only) <;> (repeat' split) <;> first | (simp <;> done) | rfl

@[simp] theorem State.beginRead_leaves (b : Byte) (i : Nat) (s : State) :
    (State.beginRead b i s).inReset = s.inReset ∧ (State.beginRead b i s).setup = s.setup
     ∧ (State.beginRead b i s).store = s.store ∧ (State.beginRead b i s).queue = s.queue
     ∧ (State.beginRead b i s).engine = s.engine ∧ (State.beginRead b i s).journal = s.journal
     ∧ (State.beginRead b i s).forward = s.forward ∧ (State.beginRead b i s).window = s.window
     ∧ (State.beginRead b i s).port.gate = s.port.gate ∧ (State.beginRead b i s).port.pointers = s.port.pointers
     ∧ (State.beginRead b i s).port.sent = s.port.sent ∧ (State.beginRead b i s).relay = s.relay
     ∧ (State.beginRead b i s).down.intReqs = s.down.intReqs ∧ (State.beginRead b i s).down.grant = s.down.grant
     ∧ (State.beginRead b i s).down.fairness = s.down.fairness ∧ (State.beginRead b i s).down.states = s.down.states
     ∧ (State.beginRead b i s).down.poll = s.down.poll ∧ (State.beginRead b i s).down.detections = s.down.detections
     ∧ (State.beginRead b i s).down.clears = s.down.clears ∧ (State.beginRead b i s).down.clearing = s.down.clearing
     ∧ (State.beginRead b i s).down.ended = s.down.ended ∧ (State.beginRead b i s).down.speed = s.down.speed
     ∧ (State.beginRead b i s).down.activity = s.down.activity ∧ (State.beginRead b i s).freeIndex = s.freeIndex
     ∧ (State.beginRead b i s).pending = s.pending := by
  and_intros <;> unfold State.beginRead <;> (try dsimp only) <;> (repeat' split) <;> first | (simp <;> done) | rfl

@[simp] theorem State.beginHeader_leaves (b : Byte) (i : Nat) (s : State) :
    (State.beginHeader b i s).inReset = s.inReset ∧ (State.beginHeader b i s).setup = s.setup
     ∧ (State.beginHeader b i s).store = s.store ∧ (State.beginHeader b i s).queue = s.queue
     ∧ (State.beginHeader b i s).engine = s.engine ∧ (State.beginHeader b i s).journal = s.journal
     ∧ (State.beginHeader b i s).read = s.read ∧ (State.beginHeader b i s).forward = s.forward
     ∧ (State.beginHeader b i s).window = s.window ∧ (State.beginHeader b i s).port.gate = s.port.gate
     ∧ (State.beginHeader b i s).port.hold = s.port.hold ∧ (State.beginHeader b i s).port.holdTimer = s.port.holdTimer
     ∧ (State.beginHeader b i s).port.idleTimer = s.port.idleTimer
     ∧ (State.beginHeader b i s).port.pointers = s.port.pointers ∧ (State.beginHeader b i s).port.sent = s.port.sent
     ∧ (State.beginHeader b i s).relay = s.relay ∧ (State.beginHeader b i s).down = s.down
     ∧ (State.beginHeader b i s).freeIndex = s.freeIndex ∧ (State.beginHeader b i s).pending = s.pending := by
  and_intros <;> unfold State.beginHeader <;> (try dsimp only) <;> (repeat' split) <;> first | (simp <;> done) | rfl

@[simp] theorem State.beginRelay_leaves (b : Byte) (s : State) :
    (State.beginRelay b s).inReset = s.inReset ∧ (State.beginRelay b s).setup = s.setup
     ∧ (State.beginRelay b s).store = s.store ∧ (State.beginRelay b s).queue = s.queue
     ∧ (State.beginRelay b s).engine = s.engine ∧ (State.beginRelay b s).journal = s.journal
     ∧ (State.beginRelay b s).read = s.read ∧ (State.beginRelay b s).forward = s.forward
     ∧ (State.beginRelay b s).window = s.window ∧ (State.beginRelay b s).port.gate = s.port.gate
     ∧ (State.beginRelay b s).port.pointers = s.port.pointers ∧ (State.beginRelay b s).port.sent = s.port.sent
     ∧ (State.beginRelay b s).down.intReqs = s.down.intReqs ∧ (State.beginRelay b s).down.grant = s.down.grant
     ∧ (State.beginRelay b s).down.fairness = s.down.fairness ∧ (State.beginRelay b s).down.states = s.down.states
     ∧ (State.beginRelay b s).down.poll = s.down.poll ∧ (State.beginRelay b s).down.detections = s.down.detections
     ∧ (State.beginRelay b s).down.clears = s.down.clears ∧ (State.beginRelay b s).down.clearing = s.down.clearing
     ∧ (State.beginRelay b s).down.ended = s.down.ended ∧ (State.beginRelay b s).down.speed = s.down.speed
     ∧ (State.beginRelay b s).down.activity = s.down.activity ∧ (State.beginRelay b s).freeIndex = s.freeIndex
     ∧ (State.beginRelay b s).pending = s.pending := by
  and_intros <;> unfold State.beginRelay <;> (try dsimp only) <;> (repeat' split) <;> first | (simp <;> done) | rfl

@[simp] theorem State.continueRelay_leaves (b : Byte) (s : State) :
    (State.continueRelay b s).inReset = s.inReset ∧ (State.continueRelay b s).setup = s.setup
     ∧ (State.continueRelay b s).store = s.store ∧ (State.continueRelay b s).queue = s.queue
     ∧ (State.continueRelay b s).engine = s.engine ∧ (State.continueRelay b s).journal = s.journal
     ∧ (State.continueRelay b s).read = s.read ∧ (State.continueRelay b s).forward = s.forward
     ∧ (State.continueRelay b s).window = s.window ∧ (State.continueRelay b s).port.gate = s.port.gate
     ∧ (State.continueRelay b s).port.pointers = s.port.pointers ∧ (State.continueRelay b s).port.sent = s.port.sent
     ∧ (State.continueRelay b s).down = s.down ∧ (State.continueRelay b s).freeIndex = s.freeIndex
     ∧ (State.continueRelay b s).pending = s.pending := by
  and_intros <;> unfold State.continueRelay <;> (try dsimp only) <;> (repeat' split) <;> first | (simp <;> done) | rfl

@[simp] theorem State.closePending_leaves (s : State) :
    (State.closePending s).inReset = s.inReset ∧ (State.closePending s).store = s.store
     ∧ (State.closePending s).queue.sealed = s.queue.sealed ∧ (State.closePending s).queue.lost = s.queue.lost
     ∧ (State.closePending s).engine.pointer = s.engine.pointer
     ∧ (State.closePending s).engine.attempts = s.engine.attempts
     ∧ (State.closePending s).engine.pauseRequested = s.engine.pauseRequested
     ∧ (State.closePending s).journal.head = s.journal.head
     ∧ (State.closePending s).journal.nextSeq = s.journal.nextSeq
     ∧ (State.closePending s).journal.lastSeq = s.journal.lastSeq
     ∧ (State.closePending s).journal.lastTag = s.journal.lastTag
     ∧ (State.closePending s).journal.live = s.journal.live ∧ (State.closePending s).read.dev = s.read.dev
     ∧ (State.closePending s).read.snapshot = s.read.snapshot
     ∧ (State.closePending s).window.lastMark = s.window.lastMark
     ∧ (State.closePending s).window.result = s.window.result ∧ (State.closePending s).window.done = s.window.done
     ∧ (State.closePending s).window.completion = s.window.completion
     ∧ (State.closePending s).down.clears = s.down.clears ∧ (State.closePending s).pending = s.pending := by
  and_intros <;> unfold State.closePending <;> (try dsimp only) <;> (repeat' split) <;> first | (simp <;> done) | rfl

@[simp] theorem State.classDeviceByte_leaves (b : Byte) (s : State) :
    (State.classDeviceByte b s).inReset = s.inReset ∧ (State.classDeviceByte b s).store = s.store
     ∧ (State.classDeviceByte b s).queue.sealed = s.queue.sealed
     ∧ (State.classDeviceByte b s).queue.lost = s.queue.lost
     ∧ (State.classDeviceByte b s).engine.pointer = s.engine.pointer
     ∧ (State.classDeviceByte b s).engine.attempts = s.engine.attempts
     ∧ (State.classDeviceByte b s).engine.pauseRequested = s.engine.pauseRequested
     ∧ (State.classDeviceByte b s).journal.head = s.journal.head
     ∧ (State.classDeviceByte b s).journal.nextSeq = s.journal.nextSeq
     ∧ (State.classDeviceByte b s).journal.lastSeq = s.journal.lastSeq
     ∧ (State.classDeviceByte b s).journal.lastTag = s.journal.lastTag
     ∧ (State.classDeviceByte b s).journal.live = s.journal.live
     ∧ (State.classDeviceByte b s).window.lastMark = s.window.lastMark
     ∧ (State.classDeviceByte b s).window.result = s.window.result
     ∧ (State.classDeviceByte b s).window.done = s.window.done
     ∧ (State.classDeviceByte b s).window.completion = s.window.completion
     ∧ (State.classDeviceByte b s).down.clears = s.down.clears ∧ (State.classDeviceByte b s).pending = s.pending := by
  and_intros <;> unfold State.classDeviceByte <;> (try dsimp only) <;> (repeat' split) <;> first | (simp <;> done) | rfl

@[simp] theorem State.firstAddressByte_leaves (b : Byte) (s : State) :
    (State.firstAddressByte b s).inReset = s.inReset ∧ (State.firstAddressByte b s).setup = s.setup
     ∧ (State.firstAddressByte b s).store = s.store ∧ (State.firstAddressByte b s).queue = s.queue
     ∧ (State.firstAddressByte b s).engine = s.engine ∧ (State.firstAddressByte b s).journal = s.journal
     ∧ (State.firstAddressByte b s).read = s.read ∧ (State.firstAddressByte b s).forward = s.forward
     ∧ (State.firstAddressByte b s).window = s.window ∧ (State.firstAddressByte b s).port.gate = s.port.gate
     ∧ (State.firstAddressByte b s).port.hold = s.port.hold
     ∧ (State.firstAddressByte b s).port.holdTimer = s.port.holdTimer
     ∧ (State.firstAddressByte b s).port.idleTimer = s.port.idleTimer
     ∧ (State.firstAddressByte b s).port.pointers = s.port.pointers
     ∧ (State.firstAddressByte b s).port.sent = s.port.sent ∧ (State.firstAddressByte b s).relay = s.relay
     ∧ (State.firstAddressByte b s).down = s.down ∧ (State.firstAddressByte b s).freeIndex = s.freeIndex
     ∧ (State.firstAddressByte b s).pending = s.pending := by
  and_intros <;> unfold State.firstAddressByte <;> (try dsimp only) <;> (repeat' split) <;> first | (simp <;> done) | rfl

@[simp] theorem State.secondAddressByte_leaves (d : Nat) (w : Word) (s : State) :
    (State.secondAddressByte d w s).inReset = s.inReset ∧ (State.secondAddressByte d w s).setup = s.setup
     ∧ (State.secondAddressByte d w s).store = s.store ∧ (State.secondAddressByte d w s).queue = s.queue
     ∧ (State.secondAddressByte d w s).engine = s.engine ∧ (State.secondAddressByte d w s).journal = s.journal
     ∧ (State.secondAddressByte d w s).read = s.read ∧ (State.secondAddressByte d w s).window = s.window
     ∧ (State.secondAddressByte d w s).port.gate = s.port.gate
     ∧ (State.secondAddressByte d w s).port.sent = s.port.sent ∧ (State.secondAddressByte d w s).relay = s.relay
     ∧ (State.secondAddressByte d w s).down = s.down ∧ (State.secondAddressByte d w s).freeIndex = s.freeIndex
     ∧ (State.secondAddressByte d w s).pending = s.pending := by
  and_intros <;> unfold State.secondAddressByte <;> (try dsimp only) <;> (repeat' split) <;> first | (simp <;> done) | rfl

@[simp] theorem State.relayByte_leaves (b : Byte) (s : State) :
    (State.relayByte b s).inReset = s.inReset ∧ (State.relayByte b s).setup = s.setup
     ∧ (State.relayByte b s).store = s.store ∧ (State.relayByte b s).queue = s.queue
     ∧ (State.relayByte b s).engine = s.engine ∧ (State.relayByte b s).journal = s.journal
     ∧ (State.relayByte b s).read = s.read ∧ (State.relayByte b s).forward = s.forward
     ∧ (State.relayByte b s).window = s.window ∧ (State.relayByte b s).port.gate = s.port.gate
     ∧ (State.relayByte b s).port.frame = s.port.frame ∧ (State.relayByte b s).port.pointers = s.port.pointers
     ∧ (State.relayByte b s).port.sent = s.port.sent ∧ (State.relayByte b s).down = s.down
     ∧ (State.relayByte b s).freeIndex = s.freeIndex ∧ (State.relayByte b s).pending = s.pending := by
  and_intros <;> unfold State.relayByte <;> (try dsimp only) <;> (repeat' split) <;> first | (simp <;> done) | rfl

@[simp] theorem State.beginHomeRelay_leaves (b : Byte) (start : Word) (s : State) :
    (State.beginHomeRelay b start s).inReset = s.inReset ∧ (State.beginHomeRelay b start s).setup = s.setup
     ∧ (State.beginHomeRelay b start s).store = s.store ∧ (State.beginHomeRelay b start s).queue = s.queue
     ∧ (State.beginHomeRelay b start s).engine = s.engine ∧ (State.beginHomeRelay b start s).journal = s.journal
     ∧ (State.beginHomeRelay b start s).read = s.read ∧ (State.beginHomeRelay b start s).forward = s.forward
     ∧ (State.beginHomeRelay b start s).window = s.window ∧ (State.beginHomeRelay b start s).port.gate = s.port.gate
     ∧ (State.beginHomeRelay b start s).port.frame = s.port.frame
     ∧ (State.beginHomeRelay b start s).port.pointers = s.port.pointers
     ∧ (State.beginHomeRelay b start s).port.sent = s.port.sent
     ∧ (State.beginHomeRelay b start s).down.intReqs = s.down.intReqs
     ∧ (State.beginHomeRelay b start s).down.grant = s.down.grant
     ∧ (State.beginHomeRelay b start s).down.fairness = s.down.fairness
     ∧ (State.beginHomeRelay b start s).down.states = s.down.states
     ∧ (State.beginHomeRelay b start s).down.poll = s.down.poll
     ∧ (State.beginHomeRelay b start s).down.detections = s.down.detections
     ∧ (State.beginHomeRelay b start s).down.clears = s.down.clears
     ∧ (State.beginHomeRelay b start s).down.clearing = s.down.clearing
     ∧ (State.beginHomeRelay b start s).down.ended = s.down.ended
     ∧ (State.beginHomeRelay b start s).down.speed = s.down.speed
     ∧ (State.beginHomeRelay b start s).down.activity = s.down.activity
     ∧ (State.beginHomeRelay b start s).freeIndex = s.freeIndex ∧ (State.beginHomeRelay b start s).pending = s.pending := by
  and_intros <;> unfold State.beginHomeRelay <;> (try dsimp only) <;> (repeat' split) <;> first | (simp <;> done) | rfl

@[simp] theorem State.stagedDataByte_leaves (f : Frame) (b : Byte) (s : State) :
    (State.stagedDataByte f b s).inReset = s.inReset ∧ (State.stagedDataByte f b s).setup = s.setup
     ∧ (State.stagedDataByte f b s).store.claims = s.store.claims
     ∧ (State.stagedDataByte f b s).queue.sealed = s.queue.sealed ∧ (State.stagedDataByte f b s).engine = s.engine
     ∧ (State.stagedDataByte f b s).journal = s.journal ∧ (State.stagedDataByte f b s).read = s.read
     ∧ (State.stagedDataByte f b s).forward = s.forward ∧ (State.stagedDataByte f b s).window = s.window
     ∧ (State.stagedDataByte f b s).port.gate = s.port.gate ∧ (State.stagedDataByte f b s).port.hold = s.port.hold
     ∧ (State.stagedDataByte f b s).port.holdTimer = s.port.holdTimer
     ∧ (State.stagedDataByte f b s).port.idleTimer = s.port.idleTimer
     ∧ (State.stagedDataByte f b s).port.sent = s.port.sent ∧ (State.stagedDataByte f b s).relay = s.relay
     ∧ (State.stagedDataByte f b s).down = s.down ∧ (State.stagedDataByte f b s).freeIndex = s.freeIndex
     ∧ (State.stagedDataByte f b s).pending = s.pending := by
  and_intros <;> unfold State.stagedDataByte <;> (try dsimp only) <;> (repeat' split) <;> first | (simp <;> done) | rfl

@[simp] theorem State.markDataByte_leaves (f : Frame) (b : Byte) (s : State) :
    (State.markDataByte f b s).inReset = s.inReset ∧ (State.markDataByte f b s).setup = s.setup
     ∧ (State.markDataByte f b s).store = s.store ∧ (State.markDataByte f b s).queue = s.queue
     ∧ (State.markDataByte f b s).engine = s.engine ∧ (State.markDataByte f b s).journal = s.journal
     ∧ (State.markDataByte f b s).read = s.read ∧ (State.markDataByte f b s).forward = s.forward
     ∧ (State.markDataByte f b s).window = s.window ∧ (State.markDataByte f b s).port.gate = s.port.gate
     ∧ (State.markDataByte f b s).port.hold = s.port.hold
     ∧ (State.markDataByte f b s).port.holdTimer = s.port.holdTimer
     ∧ (State.markDataByte f b s).port.idleTimer = s.port.idleTimer
     ∧ (State.markDataByte f b s).port.sent = s.port.sent ∧ (State.markDataByte f b s).relay = s.relay
     ∧ (State.markDataByte f b s).down = s.down ∧ (State.markDataByte f b s).freeIndex = s.freeIndex
     ∧ (State.markDataByte f b s).pending = s.pending := by
  and_intros <;> unfold State.markDataByte <;> (try dsimp only) <;> (repeat' split) <;> first | (simp <;> done) | rfl

@[simp] theorem State.postedDataByte_leaves (f : Frame) (b : Byte) (s : State) :
    (State.postedDataByte f b s).inReset = s.inReset ∧ (State.postedDataByte f b s).setup = s.setup
     ∧ (State.postedDataByte f b s).store = s.store ∧ (State.postedDataByte f b s).queue = s.queue
     ∧ (State.postedDataByte f b s).engine = s.engine ∧ (State.postedDataByte f b s).journal = s.journal
     ∧ (State.postedDataByte f b s).read = s.read ∧ (State.postedDataByte f b s).window = s.window
     ∧ (State.postedDataByte f b s).port.gate = s.port.gate ∧ (State.postedDataByte f b s).port.hold = s.port.hold
     ∧ (State.postedDataByte f b s).port.holdTimer = s.port.holdTimer
     ∧ (State.postedDataByte f b s).port.idleTimer = s.port.idleTimer
     ∧ (State.postedDataByte f b s).port.sent = s.port.sent ∧ (State.postedDataByte f b s).relay = s.relay
     ∧ (State.postedDataByte f b s).down = s.down ∧ (State.postedDataByte f b s).freeIndex = s.freeIndex
     ∧ (State.postedDataByte f b s).pending = s.pending := by
  and_intros <;> unfold State.postedDataByte <;> (try dsimp only) <;> (repeat' split) <;> first | (simp <;> done) | rfl

@[simp] theorem State.advanceRead_leaves (s : State) :
    (State.advanceRead s).inReset = s.inReset ∧ (State.advanceRead s).setup = s.setup
     ∧ (State.advanceRead s).store = s.store ∧ (State.advanceRead s).queue = s.queue
     ∧ (State.advanceRead s).engine = s.engine ∧ (State.advanceRead s).journal = s.journal
     ∧ (State.advanceRead s).read = s.read ∧ (State.advanceRead s).forward = s.forward
     ∧ (State.advanceRead s).window = s.window ∧ (State.advanceRead s).port.gate = s.port.gate
     ∧ (State.advanceRead s).port.frame = s.port.frame ∧ (State.advanceRead s).port.hold = s.port.hold
     ∧ (State.advanceRead s).port.holdTimer = s.port.holdTimer
     ∧ (State.advanceRead s).port.idleTimer = s.port.idleTimer ∧ (State.advanceRead s).port.answer = s.port.answer
     ∧ (State.advanceRead s).port.sent = s.port.sent ∧ (State.advanceRead s).relay = s.relay
     ∧ (State.advanceRead s).down = s.down ∧ (State.advanceRead s).freeIndex = s.freeIndex
     ∧ (State.advanceRead s).pending = s.pending := by
  and_intros <;> unfold State.advanceRead <;> (try dsimp only) <;> (repeat' split) <;> first | (simp <;> done) | rfl

@[simp] theorem State.afterPoll_leaves (r : Requester) (p : Poll) (s : State) :
    (State.afterPoll r p s).inReset = s.inReset ∧ (State.afterPoll r p s).store.image = s.store.image
     ∧ (State.afterPoll r p s).queue.openGroup = s.queue.openGroup ∧ (State.afterPoll r p s).queue.lost = s.queue.lost
     ∧ (State.afterPoll r p s).engine.pauseRequested = s.engine.pauseRequested
     ∧ (State.afterPoll r p s).journal.nextSeq = s.journal.nextSeq
     ∧ (State.afterPoll r p s).journal.scan = s.journal.scan ∧ (State.afterPoll r p s).read = s.read
     ∧ (State.afterPoll r p s).window.lastMark = s.window.lastMark
     ∧ (State.afterPoll r p s).window.result = s.window.result
     ∧ (State.afterPoll r p s).window.fwdFail = s.window.fwdFail
     ∧ (State.afterPoll r p s).window.setupNotice = s.window.setupNotice
     ∧ (State.afterPoll r p s).window.ffDevice = s.window.ffDevice
     ∧ (State.afterPoll r p s).window.ffAddr = s.window.ffAddr ∧ (State.afterPoll r p s).port.frame = s.port.frame
     ∧ (State.afterPoll r p s).port.sent = s.port.sent ∧ (State.afterPoll r p s).down.upFifo = s.down.upFifo
     ∧ (State.afterPoll r p s).down.fairness = s.down.fairness ∧ (State.afterPoll r p s).down.states = s.down.states
     ∧ (State.afterPoll r p s).down.detections = s.down.detections
     ∧ (State.afterPoll r p s).down.clears = s.down.clears ∧ (State.afterPoll r p s).down.speed = s.down.speed
     ∧ (State.afterPoll r p s).freeIndex = s.freeIndex ∧ (State.afterPoll r p s).pending = s.pending := by
  and_intros <;> unfold State.afterPoll <;> (try dsimp only) <;> (repeat' split) <;> first | (simp <;> done) | rfl

@[simp] theorem State.pollAcknowledged_leaves (r : Requester) (p : Poll) (s : State) :
    (State.pollAcknowledged r p s).inReset = s.inReset ∧ (State.pollAcknowledged r p s).store.image = s.store.image
     ∧ (State.pollAcknowledged r p s).queue.openGroup = s.queue.openGroup
     ∧ (State.pollAcknowledged r p s).queue.lost = s.queue.lost
     ∧ (State.pollAcknowledged r p s).engine.pauseRequested = s.engine.pauseRequested
     ∧ (State.pollAcknowledged r p s).journal.nextSeq = s.journal.nextSeq
     ∧ (State.pollAcknowledged r p s).journal.scan = s.journal.scan ∧ (State.pollAcknowledged r p s).read = s.read
     ∧ (State.pollAcknowledged r p s).window.lastMark = s.window.lastMark
     ∧ (State.pollAcknowledged r p s).window.result = s.window.result
     ∧ (State.pollAcknowledged r p s).window.fwdFail = s.window.fwdFail
     ∧ (State.pollAcknowledged r p s).window.setupNotice = s.window.setupNotice
     ∧ (State.pollAcknowledged r p s).window.ffDevice = s.window.ffDevice
     ∧ (State.pollAcknowledged r p s).window.ffAddr = s.window.ffAddr
     ∧ (State.pollAcknowledged r p s).port.frame = s.port.frame
     ∧ (State.pollAcknowledged r p s).port.sent = s.port.sent
     ∧ (State.pollAcknowledged r p s).down.upFifo = s.down.upFifo
     ∧ (State.pollAcknowledged r p s).down.fairness = s.down.fairness
     ∧ (State.pollAcknowledged r p s).down.detections = s.down.detections
     ∧ (State.pollAcknowledged r p s).down.clears = s.down.clears
     ∧ (State.pollAcknowledged r p s).down.speed = s.down.speed
     ∧ (State.pollAcknowledged r p s).freeIndex = s.freeIndex ∧ (State.pollAcknowledged r p s).pending = s.pending := by
  and_intros <;> unfold State.pollAcknowledged <;> (try dsimp only) <;> (repeat' split) <;> first | (simp <;> done) | rfl

@[simp] theorem State.expirePoll_leaves (r : Requester) (p : Poll) (s : State) :
    (State.expirePoll r p s).inReset = s.inReset ∧ (State.expirePoll r p s).setup.straps = s.setup.straps
     ∧ (State.expirePoll r p s).store = s.store ∧ (State.expirePoll r p s).queue.sealed = s.queue.sealed
     ∧ (State.expirePoll r p s).queue.lost = s.queue.lost ∧ (State.expirePoll r p s).engine.pointer = s.engine.pointer
     ∧ (State.expirePoll r p s).engine.attempts = s.engine.attempts
     ∧ (State.expirePoll r p s).engine.pauseRequested = s.engine.pauseRequested
     ∧ (State.expirePoll r p s).journal.head = s.journal.head
     ∧ (State.expirePoll r p s).journal.nextSeq = s.journal.nextSeq
     ∧ (State.expirePoll r p s).journal.lastSeq = s.journal.lastSeq
     ∧ (State.expirePoll r p s).journal.lastTag = s.journal.lastTag
     ∧ (State.expirePoll r p s).journal.live = s.journal.live ∧ (State.expirePoll r p s).read.dev = s.read.dev
     ∧ (State.expirePoll r p s).read.snapshot = s.read.snapshot
     ∧ (State.expirePoll r p s).window.lastMark = s.window.lastMark
     ∧ (State.expirePoll r p s).window.result = s.window.result ∧ (State.expirePoll r p s).window.done = s.window.done
     ∧ (State.expirePoll r p s).window.completion = s.window.completion
     ∧ (State.expirePoll r p s).down.upFifo = s.down.upFifo ∧ (State.expirePoll r p s).down.fairness = s.down.fairness
     ∧ (State.expirePoll r p s).down.detections = s.down.detections
     ∧ (State.expirePoll r p s).down.clears = s.down.clears ∧ (State.expirePoll r p s).down.speed = s.down.speed
     ∧ (State.expirePoll r p s).freeIndex = s.freeIndex ∧ (State.expirePoll r p s).pending = s.pending := by
  and_intros <;> unfold State.expirePoll <;> (try dsimp only) <;> (repeat' split) <;> first | (simp <;> done) | rfl

@[simp] theorem State.waitInterval_leaves (s : State) :
    (State.waitInterval s).inReset = s.inReset ∧ (State.waitInterval s).setup = s.setup
     ∧ (State.waitInterval s).store = s.store ∧ (State.waitInterval s).queue = s.queue
     ∧ (State.waitInterval s).engine = s.engine ∧ (State.waitInterval s).journal = s.journal
     ∧ (State.waitInterval s).read = s.read ∧ (State.waitInterval s).forward = s.forward
     ∧ (State.waitInterval s).window = s.window ∧ (State.waitInterval s).port = s.port
     ∧ (State.waitInterval s).relay = s.relay ∧ (State.waitInterval s).down.upFifo = s.down.upFifo
     ∧ (State.waitInterval s).down.intReqs = s.down.intReqs ∧ (State.waitInterval s).down.grant = s.down.grant
     ∧ (State.waitInterval s).down.fairness = s.down.fairness ∧ (State.waitInterval s).down.states = s.down.states
     ∧ (State.waitInterval s).down.detections = s.down.detections ∧ (State.waitInterval s).down.clears = s.down.clears
     ∧ (State.waitInterval s).down.clearing = s.down.clearing ∧ (State.waitInterval s).down.ended = s.down.ended
     ∧ (State.waitInterval s).down.speed = s.down.speed ∧ (State.waitInterval s).down.activity = s.down.activity
     ∧ (State.waitInterval s).freeIndex = s.freeIndex ∧ (State.waitInterval s).pending = s.pending := by
  and_intros <;> unfold State.waitInterval <;> (try dsimp only) <;> (repeat' split) <;> first | (simp <;> done) | rfl

@[simp] theorem State.nextAttempt_leaves (s : State) :
    (State.nextAttempt s).inReset = s.inReset ∧ (State.nextAttempt s).setup = s.setup
     ∧ (State.nextAttempt s).store = s.store ∧ (State.nextAttempt s).queue = s.queue
     ∧ (State.nextAttempt s).engine = s.engine ∧ (State.nextAttempt s).journal = s.journal
     ∧ (State.nextAttempt s).read = s.read ∧ (State.nextAttempt s).forward = s.forward
     ∧ (State.nextAttempt s).window = s.window ∧ (State.nextAttempt s).port = s.port
     ∧ (State.nextAttempt s).relay = s.relay ∧ (State.nextAttempt s).down.upFifo = s.down.upFifo
     ∧ (State.nextAttempt s).down.intReqs = s.down.intReqs ∧ (State.nextAttempt s).down.grant = s.down.grant
     ∧ (State.nextAttempt s).down.fairness = s.down.fairness ∧ (State.nextAttempt s).down.states = s.down.states
     ∧ (State.nextAttempt s).down.detections = s.down.detections ∧ (State.nextAttempt s).down.clears = s.down.clears
     ∧ (State.nextAttempt s).down.clearing = s.down.clearing ∧ (State.nextAttempt s).down.ended = s.down.ended
     ∧ (State.nextAttempt s).down.speed = s.down.speed ∧ (State.nextAttempt s).down.activity = s.down.activity
     ∧ (State.nextAttempt s).freeIndex = s.freeIndex ∧ (State.nextAttempt s).pending = s.pending := by
  and_intros <;> unfold State.nextAttempt <;> (try dsimp only) <;> (repeat' split) <;> first | (simp <;> done) | rfl

@[simp] theorem State.noteRefusal_leaves (r : Requester) (s : State) :
    (State.noteRefusal r s).inReset = s.inReset ∧ (State.noteRefusal r s).setup = s.setup
     ∧ (State.noteRefusal r s).store = s.store ∧ (State.noteRefusal r s).queue = s.queue
     ∧ (State.noteRefusal r s).engine.state = s.engine.state
     ∧ (State.noteRefusal r s).engine.pointer = s.engine.pointer
     ∧ (State.noteRefusal r s).engine.pauseRequested = s.engine.pauseRequested
     ∧ (State.noteRefusal r s).engine.remembered = s.engine.remembered
     ∧ (State.noteRefusal r s).engine.faultCode = s.engine.faultCode
     ∧ (State.noteRefusal r s).engine.faultDevice = s.engine.faultDevice ∧ (State.noteRefusal r s).journal = s.journal
     ∧ (State.noteRefusal r s).read = s.read ∧ (State.noteRefusal r s).forward = s.forward
     ∧ (State.noteRefusal r s).window.lastMark = s.window.lastMark
     ∧ (State.noteRefusal r s).window.result = s.window.result ∧ (State.noteRefusal r s).window.done = s.window.done
     ∧ (State.noteRefusal r s).window.setupNotice = s.window.setupNotice
     ∧ (State.noteRefusal r s).window.completion = s.window.completion ∧ (State.noteRefusal r s).port = s.port
     ∧ (State.noteRefusal r s).relay = s.relay ∧ (State.noteRefusal r s).down = s.down
     ∧ (State.noteRefusal r s).freeIndex = s.freeIndex ∧ (State.noteRefusal r s).pending = s.pending := by
  and_intros <;> unfold State.noteRefusal <;> (try dsimp only) <;> (repeat' split) <;> first | (simp <;> done) | rfl

@[simp] theorem State.readRefused_leaves (r : Requester) (s : State) :
    (State.readRefused r s).inReset = s.inReset ∧ (State.readRefused r s).setup.straps = s.setup.straps
     ∧ (State.readRefused r s).store = s.store ∧ (State.readRefused r s).queue.sealed = s.queue.sealed
     ∧ (State.readRefused r s).queue.lost = s.queue.lost ∧ (State.readRefused r s).engine.pointer = s.engine.pointer
     ∧ (State.readRefused r s).engine.pauseRequested = s.engine.pauseRequested
     ∧ (State.readRefused r s).journal.head = s.journal.head
     ∧ (State.readRefused r s).journal.nextSeq = s.journal.nextSeq
     ∧ (State.readRefused r s).journal.lastSeq = s.journal.lastSeq
     ∧ (State.readRefused r s).journal.lastTag = s.journal.lastTag
     ∧ (State.readRefused r s).journal.live = s.journal.live ∧ (State.readRefused r s).read = s.read
     ∧ (State.readRefused r s).forward = s.forward ∧ (State.readRefused r s).window.lastMark = s.window.lastMark
     ∧ (State.readRefused r s).window.result = s.window.result ∧ (State.readRefused r s).window.done = s.window.done
     ∧ (State.readRefused r s).window.fwdFail = s.window.fwdFail
     ∧ (State.readRefused r s).window.completion = s.window.completion
     ∧ (State.readRefused r s).window.ffDevice = s.window.ffDevice
     ∧ (State.readRefused r s).window.ffAddr = s.window.ffAddr ∧ (State.readRefused r s).port.frame = s.port.frame
     ∧ (State.readRefused r s).port.hold = s.port.hold ∧ (State.readRefused r s).port.holdTimer = s.port.holdTimer
     ∧ (State.readRefused r s).port.idleTimer = s.port.idleTimer ∧ (State.readRefused r s).port.answer = s.port.answer
     ∧ (State.readRefused r s).port.sent = s.port.sent ∧ (State.readRefused r s).relay = s.relay
     ∧ (State.readRefused r s).down.upFifo = s.down.upFifo ∧ (State.readRefused r s).down.grant = s.down.grant
     ∧ (State.readRefused r s).down.fairness = s.down.fairness ∧ (State.readRefused r s).down.poll = s.down.poll
     ∧ (State.readRefused r s).down.detections = s.down.detections
     ∧ (State.readRefused r s).down.clears = s.down.clears ∧ (State.readRefused r s).down.clearing = s.down.clearing
     ∧ (State.readRefused r s).down.ended = s.down.ended ∧ (State.readRefused r s).down.speed = s.down.speed
     ∧ (State.readRefused r s).down.activity = s.down.activity ∧ (State.readRefused r s).freeIndex = s.freeIndex
     ∧ (State.readRefused r s).pending = s.pending := by
  and_intros <;> unfold State.readRefused <;> (try dsimp only) <;> (repeat' split) <;> first | (simp <;> done) | rfl

@[simp] theorem State.headerAbandoned_leaves (ack : Bool) (s : State) :
    (State.headerAbandoned ack s).inReset = s.inReset ∧ (State.headerAbandoned ack s).setup = s.setup
     ∧ (State.headerAbandoned ack s).store = s.store ∧ (State.headerAbandoned ack s).queue = s.queue
     ∧ (State.headerAbandoned ack s).engine = s.engine ∧ (State.headerAbandoned ack s).journal = s.journal
     ∧ (State.headerAbandoned ack s).read = s.read ∧ (State.headerAbandoned ack s).forward = s.forward
     ∧ (State.headerAbandoned ack s).window = s.window ∧ (State.headerAbandoned ack s).port = s.port
     ∧ (State.headerAbandoned ack s).relay = s.relay ∧ (State.headerAbandoned ack s).down.upFifo = s.down.upFifo
     ∧ (State.headerAbandoned ack s).down.intReqs = s.down.intReqs
     ∧ (State.headerAbandoned ack s).down.grant = s.down.grant
     ∧ (State.headerAbandoned ack s).down.fairness = s.down.fairness
     ∧ (State.headerAbandoned ack s).down.states = s.down.states
     ∧ (State.headerAbandoned ack s).down.poll = s.down.poll
     ∧ (State.headerAbandoned ack s).down.detections = s.down.detections
     ∧ (State.headerAbandoned ack s).down.clears = s.down.clears
     ∧ (State.headerAbandoned ack s).down.clearing = s.down.clearing
     ∧ (State.headerAbandoned ack s).down.ended = s.down.ended
     ∧ (State.headerAbandoned ack s).down.speed = s.down.speed ∧ (State.headerAbandoned ack s).freeIndex = s.freeIndex
     ∧ (State.headerAbandoned ack s).pending = s.pending := by
  and_intros <;> unfold State.headerAbandoned <;> (try dsimp only) <;> (repeat' split) <;> first | (simp <;> done) | rfl

@[simp] theorem State.takeSnapshot_leaves (s : State) :
    (State.takeSnapshot s).inReset = s.inReset ∧ (State.takeSnapshot s).setup = s.setup
     ∧ (State.takeSnapshot s).store = s.store ∧ (State.takeSnapshot s).queue = s.queue
     ∧ (State.takeSnapshot s).engine = s.engine ∧ (State.takeSnapshot s).journal = s.journal
     ∧ (State.takeSnapshot s).read.dev = s.read.dev ∧ (State.takeSnapshot s).read.phase = s.read.phase
     ∧ (State.takeSnapshot s).forward = s.forward ∧ (State.takeSnapshot s).window = s.window
     ∧ (State.takeSnapshot s).port = s.port ∧ (State.takeSnapshot s).relay = s.relay
     ∧ (State.takeSnapshot s).down = s.down ∧ (State.takeSnapshot s).freeIndex = s.freeIndex
     ∧ (State.takeSnapshot s).pending = s.pending := by
  and_intros <;> unfold State.takeSnapshot <;> (try dsimp only) <;> (repeat' split) <;> first | (simp <;> done) | rfl

@[simp] theorem State.passByte_leaves (memory : Byte) (s : State) :
    (State.passByte memory s).inReset = s.inReset ∧ (State.passByte memory s).setup = s.setup
     ∧ (State.passByte memory s).store = s.store ∧ (State.passByte memory s).queue = s.queue
     ∧ (State.passByte memory s).engine = s.engine ∧ (State.passByte memory s).journal = s.journal
     ∧ (State.passByte memory s).read.dev = s.read.dev ∧ (State.passByte memory s).read.phase = s.read.phase
     ∧ (State.passByte memory s).forward = s.forward ∧ (State.passByte memory s).window = s.window
     ∧ (State.passByte memory s).port.gate = s.port.gate ∧ (State.passByte memory s).port.frame = s.port.frame
     ∧ (State.passByte memory s).port.pointers = s.port.pointers
     ∧ (State.passByte memory s).port.answer = s.port.answer ∧ (State.passByte memory s).relay = s.relay
     ∧ (State.passByte memory s).down.upFifo = s.down.upFifo ∧ (State.passByte memory s).down.intReqs = s.down.intReqs
     ∧ (State.passByte memory s).down.grant = s.down.grant ∧ (State.passByte memory s).down.fairness = s.down.fairness
     ∧ (State.passByte memory s).down.states = s.down.states ∧ (State.passByte memory s).down.poll = s.down.poll
     ∧ (State.passByte memory s).down.detections = s.down.detections
     ∧ (State.passByte memory s).down.clears = s.down.clears
     ∧ (State.passByte memory s).down.clearing = s.down.clearing ∧ (State.passByte memory s).down.ended = s.down.ended
     ∧ (State.passByte memory s).down.speed = s.down.speed ∧ (State.passByte memory s).freeIndex = s.freeIndex
     ∧ (State.passByte memory s).pending = s.pending := by
  and_intros <;> unfold State.passByte <;> (try dsimp only) <;> (repeat' split) <;> first | (simp <;> done) | rfl

@[simp] theorem State.relayDeviceRefused_leaves (s : State) :
    (State.relayDeviceRefused s).inReset = s.inReset ∧ (State.relayDeviceRefused s).setup = s.setup
     ∧ (State.relayDeviceRefused s).store = s.store ∧ (State.relayDeviceRefused s).queue = s.queue
     ∧ (State.relayDeviceRefused s).engine = s.engine ∧ (State.relayDeviceRefused s).journal = s.journal
     ∧ (State.relayDeviceRefused s).read = s.read ∧ (State.relayDeviceRefused s).forward = s.forward
     ∧ (State.relayDeviceRefused s).window = s.window ∧ (State.relayDeviceRefused s).port.gate = s.port.gate
     ∧ (State.relayDeviceRefused s).port.pointers = s.port.pointers
     ∧ (State.relayDeviceRefused s).port.sent = s.port.sent ∧ (State.relayDeviceRefused s).down.upFifo = s.down.upFifo
     ∧ (State.relayDeviceRefused s).down.intReqs = s.down.intReqs
     ∧ (State.relayDeviceRefused s).down.grant = s.down.grant
     ∧ (State.relayDeviceRefused s).down.fairness = s.down.fairness
     ∧ (State.relayDeviceRefused s).down.states = s.down.states ∧ (State.relayDeviceRefused s).down.poll = s.down.poll
     ∧ (State.relayDeviceRefused s).down.detections = s.down.detections
     ∧ (State.relayDeviceRefused s).down.clears = s.down.clears
     ∧ (State.relayDeviceRefused s).down.clearing = s.down.clearing
     ∧ (State.relayDeviceRefused s).down.speed = s.down.speed ∧ (State.relayDeviceRefused s).freeIndex = s.freeIndex
     ∧ (State.relayDeviceRefused s).pending = s.pending := by
  and_intros <;> unfold State.relayDeviceRefused <;> (try dsimp only) <;> (repeat' split) <;> first | (simp <;> done) | rfl

@[simp] theorem State.relayDeviceAcked_leaves (r : Relay) (s : State) :
    (State.relayDeviceAcked r s).inReset = s.inReset ∧ (State.relayDeviceAcked r s).setup = s.setup
     ∧ (State.relayDeviceAcked r s).store = s.store ∧ (State.relayDeviceAcked r s).queue = s.queue
     ∧ (State.relayDeviceAcked r s).engine = s.engine ∧ (State.relayDeviceAcked r s).journal = s.journal
     ∧ (State.relayDeviceAcked r s).read = s.read ∧ (State.relayDeviceAcked r s).forward = s.forward
     ∧ (State.relayDeviceAcked r s).window = s.window ∧ (State.relayDeviceAcked r s).port.gate = s.port.gate
     ∧ (State.relayDeviceAcked r s).port.frame = s.port.frame
     ∧ (State.relayDeviceAcked r s).port.pointers = s.port.pointers
     ∧ (State.relayDeviceAcked r s).port.sent = s.port.sent ∧ (State.relayDeviceAcked r s).down = s.down
     ∧ (State.relayDeviceAcked r s).freeIndex = s.freeIndex ∧ (State.relayDeviceAcked r s).pending = s.pending := by
  and_intros <;> unfold State.relayDeviceAcked <;> (try dsimp only) <;> (repeat' split) <;> first | (simp <;> done) | rfl

@[simp] theorem State.relayByteAcked_leaves (r : Relay) (s : State) :
    (State.relayByteAcked r s).inReset = s.inReset ∧ (State.relayByteAcked r s).setup = s.setup
     ∧ (State.relayByteAcked r s).store = s.store ∧ (State.relayByteAcked r s).queue = s.queue
     ∧ (State.relayByteAcked r s).engine = s.engine ∧ (State.relayByteAcked r s).journal = s.journal
     ∧ (State.relayByteAcked r s).read = s.read ∧ (State.relayByteAcked r s).forward = s.forward
     ∧ (State.relayByteAcked r s).window = s.window ∧ (State.relayByteAcked r s).port.gate = s.port.gate
     ∧ (State.relayByteAcked r s).port.sent = s.port.sent ∧ (State.relayByteAcked r s).down = s.down
     ∧ (State.relayByteAcked r s).freeIndex = s.freeIndex ∧ (State.relayByteAcked r s).pending = s.pending := by
  and_intros <;> unfold State.relayByteAcked <;> (try dsimp only) <;> (repeat' split) <;> first | (simp <;> done) | rfl

@[simp] theorem State.relayByteRefused_leaves (r : Relay) (s : State) :
    (State.relayByteRefused r s).inReset = s.inReset ∧ (State.relayByteRefused r s).setup = s.setup
     ∧ (State.relayByteRefused r s).store = s.store ∧ (State.relayByteRefused r s).queue = s.queue
     ∧ (State.relayByteRefused r s).engine = s.engine ∧ (State.relayByteRefused r s).journal = s.journal
     ∧ (State.relayByteRefused r s).read = s.read ∧ (State.relayByteRefused r s).forward = s.forward
     ∧ (State.relayByteRefused r s).window = s.window ∧ (State.relayByteRefused r s).port.gate = s.port.gate
     ∧ (State.relayByteRefused r s).port.pointers = s.port.pointers
     ∧ (State.relayByteRefused r s).port.sent = s.port.sent ∧ (State.relayByteRefused r s).down = s.down
     ∧ (State.relayByteRefused r s).freeIndex = s.freeIndex ∧ (State.relayByteRefused r s).pending = s.pending := by
  and_intros <;> unfold State.relayByteRefused <;> (try dsimp only) <;> (repeat' split) <;> first | (simp <;> done) | rfl

@[simp] theorem State.beginClear_leaves (s : State) :
    (State.beginClear s).inReset = s.inReset ∧ (State.beginClear s).setup = s.setup
     ∧ (State.beginClear s).store = s.store ∧ (State.beginClear s).queue = s.queue
     ∧ (State.beginClear s).engine = s.engine ∧ (State.beginClear s).journal = s.journal
     ∧ (State.beginClear s).read = s.read ∧ (State.beginClear s).forward = s.forward
     ∧ (State.beginClear s).window = s.window ∧ (State.beginClear s).port = s.port
     ∧ (State.beginClear s).relay = s.relay ∧ (State.beginClear s).down.upFifo = s.down.upFifo
     ∧ (State.beginClear s).down.intReqs = s.down.intReqs ∧ (State.beginClear s).down.grant = s.down.grant
     ∧ (State.beginClear s).down.fairness = s.down.fairness ∧ (State.beginClear s).down.states = s.down.states
     ∧ (State.beginClear s).down.poll = s.down.poll ∧ (State.beginClear s).down.ended = s.down.ended
     ∧ (State.beginClear s).down.speed = s.down.speed ∧ (State.beginClear s).down.activity = s.down.activity
     ∧ (State.beginClear s).freeIndex = s.freeIndex ∧ (State.beginClear s).pending = s.pending := by
  and_intros <;> unfold State.beginClear <;> (try dsimp only) <;> (repeat' split) <;> first | (simp <;> done) | rfl

@[simp] theorem State.countClear_leaves (s : State) :
    (State.countClear s).inReset = s.inReset ∧ (State.countClear s).setup = s.setup
     ∧ (State.countClear s).store = s.store ∧ (State.countClear s).queue = s.queue
     ∧ (State.countClear s).engine = s.engine ∧ (State.countClear s).journal = s.journal
     ∧ (State.countClear s).read = s.read ∧ (State.countClear s).forward = s.forward
     ∧ (State.countClear s).window = s.window ∧ (State.countClear s).port = s.port
     ∧ (State.countClear s).relay = s.relay ∧ (State.countClear s).down.upFifo = s.down.upFifo
     ∧ (State.countClear s).down.intReqs = s.down.intReqs ∧ (State.countClear s).down.grant = s.down.grant
     ∧ (State.countClear s).down.fairness = s.down.fairness ∧ (State.countClear s).down.states = s.down.states
     ∧ (State.countClear s).down.poll = s.down.poll ∧ (State.countClear s).down.detections = s.down.detections
     ∧ (State.countClear s).down.clearing = s.down.clearing ∧ (State.countClear s).down.ended = s.down.ended
     ∧ (State.countClear s).down.speed = s.down.speed ∧ (State.countClear s).down.activity = s.down.activity
     ∧ (State.countClear s).freeIndex = s.freeIndex ∧ (State.countClear s).pending = s.pending := by
  and_intros <;> unfold State.countClear <;> (try dsimp only) <;> (repeat' split) <;> first | (simp <;> done) | rfl

end Sys2Proof.Machine
end

