-- ==== Sys2Proof/Laws/Settle.lean ====
section
/-! SUPPORT. Events in a state where nothing is due and the arbiter has nothing to do, and the arbiter's loop step by
step. -/

namespace Sys2Proof.Machine

theorem State.takeClosing_of_not_due {s : State} (h : s.closingDue = false) : s.takeClosing = s := by
  unfold State.closingDue at h
  unfold State.takeClosing
  split <;> simp_all

theorem State.takeSetup_of_nothingDue {s : State} (h : s.nothingDue) : s.takeSetup = s := by
  obtain ⟨h1, h2⟩ := h
  simp [State.takeSetup, h1, h2]

@[simp] theorem unlessRefused_next (t : State) (alt : Result) : unlessRefused (.next t) alt = .next t := rfl

@[simp] theorem unlessRefused_refused (r : Refusal) (alt : Result) : unlessRefused (.refused r) alt = alt := rfl

/-- With no step of the setup unit due, an event's meaning is taken in the state as it is, or where it is refused there
after the closing conditions under way. -/
theorem onEvent_of_nothingDue {f : State → Result} {s : State} (h : s.nothingDue) :
    onEvent f s = if s.closingDue then unlessRefused (f s) (f s.takeClosing.takeSetup) else f s := by
  simp [onEvent, State.takeSetup_of_nothingDue h]

/-- An event that can come in the state has its meaning there, closing conditions under way or not. -/
theorem onEvent_of_next {f : State → Result} {s t : State} (h : s.nothingDue) (hf : f s = .next t) :
    onEvent f s = .next t := by
  simp [onEvent_of_nothingDue h, hf]

/-- Where an event has a next state, it is the meaning's in the state after the setup unit's step, or after the closing
conditions under way too. -/
theorem onEvent_next {f : State → Result} {s t : State} (h : onEvent f s = .next t) :
    f s.takeSetup = .next t ∨ f s.takeSetup.takeClosing.takeSetup = .next t := by
  unfold onEvent unlessRefused at h
  dsimp only at h
  repeat' split at h
  · exact Or.inr h
  · exact Or.inl h
  · exact Or.inl h

theorem State.choose_none {s : State} (raced : Bool) (h1 : s.down.upFifo = []) (h2 : s.down.intReqs = []) :
    s.choose raced = none := by
  simp [State.choose, h1, h2]

theorem State.grantLoop_granted {s : State} (n : Nat) (raced : Bool) {r : Requester} (h : s.down.grant = some r) :
    s.grantLoop n raced = s := by
  cases n <;> simp [State.grantLoop, h]

theorem State.grantLoop_idle {s : State} (n : Nat) (raced : Bool) (h1 : s.down.upFifo = [])
    (h2 : s.down.intReqs = []) : s.grantLoop n raced = s := by
  cases n with
  | zero => simp [State.grantLoop]
  | succ n =>
    unfold State.grantLoop
    rw [State.choose_none raced h1 h2]
    cases s.down.grant <;> rfl

theorem State.grantLoop_settled {s : State} (n : Nat) (raced : Bool) (h : s.settled) : s.grantLoop n raced = s := by
  rcases h with h | ⟨h1, h2⟩
  · obtain ⟨r, hr⟩ := Option.ne_none_iff_exists'.mp h
    exact State.grantLoop_granted n raced hr
  · exact State.grantLoop_idle n raced h1 h2

/-- With the bus taken, or no request waiting, the arbiter changes nothing (R151). -/
theorem State.conclude_settled (s0 : State) {s : State} (h : s.settled) : s0.conclude s = s :=
  State.grantLoop_settled _ _ h

/-- The loop's step: one request chosen, awarded and opened. -/
theorem State.grantLoop_step {s s' : State} (n : Nat) {raced : Bool} {r : Requester} (h : s.down.grant = none)
    (hc : s.choose raced = some (r, s')) : s.grantLoop (n + 1) raced = ((s'.award r).openGrant r).grantLoop n false := by
  simp [State.grantLoop, h, hc]

/-- A grant to the engine whose step's device is READY sends the step's frame (R50, R154). -/
theorem State.openGrant_engine_ready {s : State} (h : s.devState s.stepDevice = .ready) :
    s.openGrant .engine = { s with down := { s.down with activity := s.stepFrame } } := by
  simp [State.openGrant, State.granted, State.target, h, State.sendFrame, State.setActivity, State.updDown]

/-- With the bus free and the engine's request the only one, the step is granted, and sent if its device is READY (R151,
R154). -/
theorem State.conclude_engine_ready (s0 : State) {s : State} (hg : s.down.grant = none) (hu : s.down.upFifo = [])
    (hi : s.down.intReqs = [.engine]) (hd : s.devState s.stepDevice = .ready) :
    s0.conclude s =
      { s with
        down :=
          { s.down with
            intReqs := [], grant := some .engine, fairness := 0, detections := 0, ended := false
            speed := s.setup.tables.speed, activity := s.stepFrame } } := by
  have hc : ∀ raced, s.choose raced = some (.engine, { s with down := { s.down with intReqs := [], fairness := 0 } }) := by
    intro raced
    unfold State.choose
    rw [hu, hi]
    rfl
  have ho := State.openGrant_engine_ready
    (s := State.award .engine { s with down := { s.down with intReqs := [], fairness := 0 } }) hd
  unfold State.conclude
  rw [State.grantLoop_step _ hg (hc _), ho]
  exact State.grantLoop_granted _ _ rfl

end Sys2Proof.Machine
end

