-- ==== Sys2Proof/Laws/Ends.lean ====
section
/-! SUPPORT. How a frame's end comes out of the conditions and the idle timer, step by step. -/

namespace Sys2Proof.Machine

theorem execStop_inFrame {s : State} {f : Frame} (hd : s.nothingDue) (hf : s.port.frame = some f)
    (hh : s.port.hold = .none) : execStop s = .next (s.concludeFrame .stop) := by
  exact onEvent_of_next hd (by simp [hf, hh])

theorem fallOfUsda_inFrame {s : State} {f : Frame} (hr : s.inReset = false) (hf : s.port.frame = some f)
    (hh : s.port.hold = .none) : s.fallOfUsda = .next (s.concludeFrame .restart).beginFrame := by
  simp [State.fallOfUsda, hr, hf, hh]

theorem execStart_inFrame {s : State} {f : Frame} (hd : s.nothingDue) (hr : s.inReset = false)
    (hf : s.port.frame = some f) (hh : s.port.hold = .none) :
    execStart s = .next (s.concludeFrame .restart).beginFrame := by
  exact onEvent_of_next hd (fallOfUsda_inFrame hr hf hh)

theorem execRepeatedStart_inFrame {s : State} {f : Frame} (hd : s.nothingDue) (hr : s.inReset = false)
    (hf : s.port.frame = some f) (hh : s.port.hold = .none) :
    execRepeatedStart s = .next (s.concludeFrame .restart).beginFrame := by
  exact onEvent_of_next hd (fallOfUsda_inFrame hr hf hh)

theorem execMisplacedCondition_inFrame {s : State} {f : Frame} (isStart : Bool) (hd : s.nothingDue)
    (hf : s.port.frame = some f) (hh : s.port.hold = .none ∨ s.port.holdTimer = none) :
    execMisplacedCondition isStart s =
      .next (if isStart then (s.concludeFrame .abnormal).beginFrame else s.concludeFrame .abnormal) := by
  have hc : s.clockHeld = false := by rcases hh with h | h <;> simp [State.clockHeld, h]
  cases isStart <;> exact onEvent_of_next hd (by simp [hf, hc])

theorem execIdleTimerExpiry_inFrame {s : State} {f : Frame} (hd : s.nothingDue) (hf : s.port.frame = some f)
    (hi : s.port.idleTimer ≠ none) : execIdleTimerExpiry s = .next (s.concludeFrame .abnormal) := by
  exact onEvent_of_next hd (by simp [hf, Option.isSome_iff_ne_none, hi])

/-- The end of a frame that carries no mark to act on and leaves no relay. -/
theorem State.endFrame_plain {s s1 : State} {f : Frame} {k : EndKind} (hf : s.port.frame = some f)
    (hb : s.endBlock k f = s1) (hr : s1.relay = none) (hm : f.handedMark k = none) :
    s.endFrame k = s1.clearFrame := by
  simp [State.endFrame, hf, hb, hm, State.endRelay, hr]

/-- The same, with the arbiter having nothing to do. -/
theorem State.concludeFrame_plain {s s1 : State} {f : Frame} {k : EndKind} (hf : s.port.frame = some f)
    (hb : s.endBlock k f = s1) (hr : s1.relay = none) (hm : f.handedMark k = none) (hs : s1.settled) :
    s.concludeFrame k = s1.clearFrame := by
  rw [State.concludeFrame, State.endFrame_plain hf hb hr hm]
  exact State.conclude_settled s (by simpa [State.settled] using hs)

/-- The end of a frame with a relay open. -/
theorem State.endFrame_relay {s s1 : State} {f : Frame} {k : EndKind} (hf : s.port.frame = some f)
    (hb : s.endBlock k f = s1) (hm : f.handedMark k = none) : s.endFrame k = (s1.endRelay k f).clearFrame := by
  simp [State.endFrame, hf, hb, hm]

/-- What a relay's end does, by where the relay stands (R144, R145, R150). -/
theorem State.leaveRelay_none {s : State} (onOpen : Relay → State → State) (hr : s.relay = none) :
    s.leaveRelay onOpen = s := by
  simp [State.leaveRelay, hr]

theorem State.leaveRelay_ungranted {s : State} {r : Relay} (onOpen : Relay → State → State) (hr : s.relay = some r)
    (hs : s.serving .relay = false) : s.leaveRelay onOpen = s.dropRelay.withdraw .relay := by
  simp [State.leaveRelay, hr, hs]

theorem State.leaveRelay_waiting {s : State} {r : Relay} (onOpen : Relay → State → State) (hr : s.relay = some r)
    (hs : s.serving .relay = true) (hw : s.down.clearing = true ∨ s.down.poll.isSome = true) :
    s.leaveRelay onOpen = s.dropRelay.markEnded := by
  simp [State.leaveRelay, hr, hs, hw]

theorem State.leaveRelay_open {s : State} {r : Relay} (onOpen : Relay → State → State) (hr : s.relay = some r)
    (hs : s.serving .relay = true) (hc : s.down.clearing = false) (hp : s.down.poll = none) (ho : r.opened = true) :
    s.leaveRelay onOpen = onOpen r s.dropRelay.markEnded := by
  simp [State.leaveRelay, hr, hs, hc, hp, ho]

theorem State.leaveRelay_unopened {s : State} {r : Relay} (onOpen : Relay → State → State) (hr : s.relay = some r)
    (hs : s.serving .relay = true) (hc : s.down.clearing = false) (hp : s.down.poll = none) (ho : r.opened = false) :
    s.leaveRelay onOpen = s.dropRelay.freeBus := by
  simp [State.leaveRelay, hr, hs, hc, hp, ho]

theorem State.clearFrame_eq (s : State) : s.clearFrame = { s with port := s.port.betweenFrames } := rfl

theorem State.clearFrame_beginFrame_eq (s : State) :
    s.clearFrame.beginFrame = { s with port := s.port.atStart s.setup.tables } := rfl

theorem Frame.classAtEnd_of_hasData {f : Frame} (k : EndKind) (h : f.hasData) : f.classAtEnd k = f.cls := by
  have : ¬ (f.headerBytes = 3 ∧ f.acked = 0 ∧ f.refusedData = false) := by
    rcases h with h | h
    · omega
    · simp [h]
  simp [Frame.classAtEnd, this]

theorem Frame.classAtEnd_of_header {f : Frame} (k : EndKind) (h : f.headerBytes < 3) : f.classAtEnd k = f.cls := by
  have : f.headerBytes ≠ 3 := by omega
  simp [Frame.classAtEnd, this]

end Sys2Proof.Machine
end

