-- ==== Sys2Proof/Laws/Answers.lean ====
section
/-! SUPPORT. What a mark, a poll attempt, and the end of a frame of the part come to, where the event is in place. -/

namespace Sys2Proof.Machine

/-- A mark that arrives is acted on after its frame, if any, has ended (R100, R132). -/
theorem markEvent_arrives {s : State} {v : Byte} (h : s.markArrives v) :
    s.markEvent v = .next (s.conclude (s.frameOver.actOnMark v)) := by
  obtain ⟨hg, h⟩ := h
  rcases h with h | ⟨f, hf, hc, hh, ha, hr⟩
  · simp [State.markEvent, hg, h, State.frameOver]
  · have hc' := hc
    simp [Frame.carries] at hc'
    obtain ⟨h1, h2, h3⟩ := hc'
    have hcl : f.classAtEnd .stop = .mark := by rw [Frame.classAtEnd_of_hasData _ (Or.inl ha), h1]
    simp [State.markEvent, hg, hf, hc, hh, State.frameOver, State.concludeFrame, State.endFrame, State.endBlock, hcl, State.endRelay, hr, Frame.handedMark, h1, h2, h3, State.clearFrame_eq]

@[simp] theorem frameOver_fields (s : State) : s.frameOver.inReset = s.inReset ∧ s.frameOver.setup = s.setup ∧ s.frameOver.store = s.store ∧ s.frameOver.queue = s.queue ∧ s.frameOver.engine = s.engine ∧ s.frameOver.journal = s.journal ∧ s.frameOver.read = s.read ∧ s.frameOver.forward = s.forward ∧ s.frameOver.window = s.window ∧ s.frameOver.relay = s.relay ∧ s.frameOver.down = s.down ∧ s.frameOver.freeIndex = s.freeIndex ∧ s.frameOver.pending = s.pending := by
  unfold State.frameOver; split <;> simp

/-- A poll attempt that is on the segment ends (R155). -/
theorem State.onAttempt_eq {s : State} {r : Requester} {p : Poll} (hg : s.down.grant = some r) (hp : s.down.poll = some p)
    (ha : p.attempt = true) (hc : s.down.clearing = false) (F : Requester → Poll → Result) : s.onAttempt F = F r p := by
  simp [State.onAttempt, hg, hp, ha, hc]

/-- A write frame that is on the segment ends (R148). -/
theorem State.onWrite_eq {s : State} {r : Requester} {a : DevAddr} {w : Word} {bs : List Byte}
    (hg : s.down.grant = some r) (hc : s.down.clearing = false) (hp : s.down.poll = none)
    (ha : s.down.activity = .write a w bs) (F : Requester → DevAddr → Result) : s.onWrite F = F r a := by
  simp [State.onWrite, hg, ha, hc, hp]

/-- A random read that is on the segment ends (R8, R53, R79). -/
theorem State.onRead_eq {s : State} {r : Requester} {a : DevAddr} {w : Word} {n : Nat}
    (hg : s.down.grant = some r) (hc : s.down.clearing = false) (hp : s.down.poll = none)
    (ha : s.down.activity = .read a w n) (F : Requester → Nat → Result) : s.onRead F = F r n := by
  simp [State.onRead, hg, ha, hc, hp]

/-- What is on the segment for a granted READ frame (R88, R89). -/
theorem State.readActivity_eq {s : State} {a : Activity} (hg : s.down.grant = some .read) (hc : s.down.clearing = false)
    (hp : s.down.poll = none) (ha : s.down.activity = a) : s.readActivity = some a := by
  simp [State.readActivity, hg, hc, hp, ha]

/-- A byte of a relay being wound up is in progress (R145). -/
theorem State.windingUp_eq {s : State} {d : Direction} {how : Closing} {home : Bool}
    (hg : s.down.grant = some .relay) (he : s.down.ended = true)
    (hc : s.down.clearing = false) (ha : s.down.activity = .windUp d how home) :
    s.windingUp = some (d, how, home) := by
  simp [State.windingUp, hg, ha, he, hc]

/-- A relay that is still served is not being wound up. -/
theorem State.windingUp_none {s : State} (he : s.down.ended = false) : s.windingUp = none := by
  unfold State.windingUp
  split <;> simp [he]

/-- In a phase the current group is the oldest sealed group (R49). -/
theorem State.currentGroup_of_phase {s : State} {p : Phase} (h : s.engine.state = .phase p) :
    s.currentGroup = s.queue.sealed.head? := by
  simp [State.currentGroup, Engine.restful, h, State.oldestSealed]

/-- An engine that rests has no current group (R49). -/
theorem State.currentGroup_of_restful {s : State} (h : s.engine.restful = true) : s.currentGroup = none := by
  simp [State.currentGroup, h]

end Sys2Proof.Machine
end

