-- ==== Sys2Proof/Laws/Formats.lean ====
section
/-! SUPPORT. What the formats give: words and their bytes, the record image and its CRC, accepted records. -/

namespace Sys2Proof.Machine

/-- A word is its two bytes, high byte first (R185). -/
theorem wordOf_bytes (w : Word) : wordOf (hiByte w) (loByte w) = w := by
  unfold wordOf hiByte loByte
  rw [BitVec.extractLsb'_append_extractLsb'_eq_extractLsb' (by rfl)]
  exact BitVec.extractLsb'_eq_self

theorem recordHead_length (g : Group) (p : Nat) : (recordHead g p).length = 10 := by simp [recordHead, wordBytes]

/-- The CRC of a record image holds (R187). -/
theorem image_crc (g : Group) (p : Nat) : recordCrc (recordImage g p) = wordAt (recordImage g p) 10 := by
  have h10 := recordHead_length g p
  have e1 : (recordImage g p).take 10 = recordHead g p := by
    simp only [recordImage, List.append_assoc]
    rw [List.take_append_of_le_length (by omega), List.take_of_length_le (by omega)]
  have e2 : (recordImage g p).drop 16 = payloadOf g.entries := by
    simp only [recordImage, List.append_assoc]
    rw [List.drop_append]
    simp [h10, wordBytes]
  have e3 : wordAt (recordImage g p) 10 = crc16 (recordHead g p ++ payloadOf g.entries) := by
    simp only [wordAt, byteAt, recordImage, List.append_assoc, List.getD_eq_getElem?_getD]
    rw [List.getElem?_append_right (by omega), List.getElem?_append_right (l₁ := recordHead g p) (i := 10 + 1) (by omega), h10]
    simp [wordBytes, wordOf_bytes]
  rw [recordCrc, e1, e2, e3]

/-- The verify step compares bytes: the CRC of equal bytes holds (R53). -/
theorem verify_iff (g : Group) (p : Nat) (bs : List Byte) : verifyMatches (recordImage g p) bs = decide (bs = recordImage g p) := by
  by_cases h : bs = recordImage g p
  · subst h; simp [verifyMatches, image_crc]
  · simp [verifyMatches, h]

/-- An accepted record has a device (R10). -/
theorem accepted_devices {st : Straps} {bs : List Byte} (h : accepted st bs) : 1 ≤ (tablesOf bs).devices.length := by
  have hl : (tablesOf bs).devices.length = (byteAt bs 4).toNat := by simp [tablesOf]
  have hd : devicesOk st bs = true := by
    obtain ⟨_, hv⟩ := h
    apply Classical.byContradiction; intro hd
    have : devicesOk st bs = false := by simpa using hd
    unfold validate at hv
    (repeat' split at hv) <;> simp_all
  simp only [devicesOk, Bool.and_eq_true, decide_eq_true_eq] at hd
  omega

end Sys2Proof.Machine
end

