-- ==== Sys2Proof/Laws/Loop.lean ====
section
/-! SUPPORT. The arbiter's loop: it always ends settled, and what each grant keeps it keeps. -/

namespace Sys2Proof.Machine

/-- What every grant keeps the loop keeps. -/
theorem State.grantLoop_induct {P : State → Prop} (hP : ∀ s s' r raced, P s → s.down.grant = none → s.choose raced = some (r, s') → P ((s'.award r).openGrant r))
   (n : Nat) (raced : Bool) (s : State) (h : P s) : P (s.grantLoop n raced) := by
  induction n generalizing raced s with
  | zero => exact h
  | succ n ih =>
    unfold State.grantLoop
    cases hg : s.down.grant with
    | some r => exact h
    | none =>
      simp only
      cases hc : s.choose raced with
      | none => exact h
      | some p => obtain ⟨r, s'⟩ := p; exact ih _ _ (hP s s' r raced h hg hc)

/-- What every grant keeps the arbiter keeps. -/
theorem State.conclude_induct {P : State → Prop}
    (hP : ∀ s s' r raced, P s → s.down.grant = none → s.choose raced = some (r, s') → P ((s'.award r).openGrant r))
    (s0 s : State) (h : P s) : P (s0.conclude s) :=
  State.grantLoop_induct hP _ _ _ h

/-- What bounds the number of grants in a row: the requests that wait, and the one a kept load request can add (R20). -/
def State.waiting (s : State) : Nat :=
  s.down.upFifo.length + s.down.intReqs.length + (if s.setup.kept then 1 else 0)

theorem waiting_same {s t : State} (h1 : t.down.upFifo = s.down.upFifo) (h2 : t.down.intReqs = s.down.intReqs) (h3 : t.setup.kept = s.setup.kept) : State.waiting t ≤ State.waiting s := by simp [State.waiting, h1, h2, h3]

theorem waiting_rejectAttempt (s : State) (x : Reject) : State.waiting (s.rejectAttempt x) ≤ State.waiting s := by
  unfold State.rejectAttempt
  dsimp only
  cases hk : s.setup.kept
  · simp [State.waiting, hk, State.updSetup]
  · simp [State.waiting, hk, State.updSetup, State.requestLoad, State.placeInternal, State.updDown]; omega

theorem waiting_loadFailed (s : State) (x : Reject) : State.waiting (s.loadFailed x) ≤ State.waiting s := by
  unfold State.loadFailed
  split
  · split
    · apply waiting_same <;> simp
    · unfold State.rejectReload; dsimp only; split <;> apply waiting_same <;> simp [State.updSetup]
  · split
    · unfold State.fallback State.openGate; simp [State.waiting, State.updSetup, State.updPort, State.updJournal, State.updDown, State.updQueue, State.rejectSetup, State.updWindow]
    · exact waiting_rejectAttempt _ _

theorem waiting_failOp (r : Requester) (c : OpFailure) (s : State) : State.waiting (s.failOp r c) ≤ State.waiting s := by
  unfold State.failOp
  cases r <;> dsimp only
  case posted => apply waiting_same <;> simp
  case read => apply waiting_same <;> simp
  case relay =>
    unfold State.relayFailed
    split
    · unfold State.relayPollFailed
      split
      · refine Nat.le_trans (waiting_rejectAttempt _ _) ?_; apply waiting_same <;> simp
      · apply waiting_same <;> simp
    · split <;> apply waiting_same <;> simp
  case engine => apply waiting_same <;> simp
  case setupRead => refine Nat.le_trans (waiting_loadFailed _ _) ?_; apply waiting_same <;> simp
  case scanRead => simp [State.waiting, State.scanFailed, State.fallback, State.openGate, State.freeBus, State.updSetup, State.updPort, State.updJournal, State.updDown, State.updQueue, State.rejectSetup, State.updWindow]
  case homePoll => simp [State.waiting, State.fallback, State.openGate, State.freeBus, State.updSetup, State.updPort, State.updJournal, State.updDown, State.updQueue, State.rejectSetup, State.updWindow]

theorem waiting_openGrant (r : Requester) (s : State) : State.waiting (s.openGrant r) ≤ State.waiting s := by
  unfold State.openGrant
  split
  · apply waiting_same <;> simp
  · have hg : State.waiting (s.granted r) ≤ State.waiting s := by
      apply waiting_same <;> simp
      all_goals (unfold State.granted; (repeat' split) <;> simp [State.updSetup])
    dsimp only
    split
    · refine Nat.le_trans ?_ hg; apply waiting_same <;> simp
    · split
      · refine Nat.le_trans ?_ hg; apply waiting_same <;> simp
      · refine Nat.le_trans ?_ hg; apply waiting_same <;> simp
      · exact Nat.le_trans (waiting_failOp _ _ _) hg

theorem waiting_choose {s s' : State} {raced : Bool} {r : Requester} (h : s.choose raced = some (r, s')) : State.waiting s' + 1 ≤ State.waiting s := by
  unfold State.choose at h
  (repeat' split at h) <;> simp at h <;> (try (obtain ⟨_, rfl⟩ := h)) <;> simp_all [State.waiting, State.updDown] <;> omega

/-- With enough steps the loop ends with the bus taken or no request waiting. -/
theorem State.grantLoop_settles (n : Nat) (raced : Bool) (s : State) (h : State.waiting s ≤ n) : (s.grantLoop n raced).settled := by
  induction n generalizing raced s with
  | zero =>
    right
    simp [State.waiting] at h
    simp [State.grantLoop, h]
  | succ n ih =>
    unfold State.grantLoop
    split
    · rename_i r hr; left; simp [hr]
    · split
      · rename_i hc
        right
        unfold State.choose at hc
        (repeat' split at hc) <;> simp_all
      · rename_i r s' hc
        apply ih
        have h1 := waiting_choose hc
        have h2 := waiting_openGrant r (s'.award r)
        have h3 : State.waiting (s'.award r) ≤ State.waiting s' := by apply waiting_same <;> simp [State.award, State.updDown]
        omega

/-- After every event the arbiter has nothing left to do (R151). -/
theorem State.conclude_settles (s0 s : State) : (s0.conclude s).settled := by
  unfold State.conclude
  apply State.grantLoop_settles
  unfold State.waiting; split <;> omega

end Sys2Proof.Machine
end

