-- ==== Sys2Proof/Laws/Store.lean ====
section
/-! SUPPORT. What the image's runs and coalescing hold. -/

namespace Sys2Proof.Machine

theorem filterMap_id_length (l : List (Option Byte)) : (l.filterMap id).length = l.countP Option.isSome := by
  induction l with
  | nil => rfl
  | cons x xs ih =>
    rw [List.countP_cons, ← ih]
    cases x with
    | none => rfl
    | some v => rfl

theorem written_split (p : PageImage) : p.written = p.beforeStart.length + p.fromStart.length := by
  simp only [PageImage.written, PageImage.beforeStart, PageImage.fromStart, filterMap_id_length]
  rw [← List.countP_append, List.take_append_drop]

theorem all_filterMap (p : PageImage) : (p.cells.filterMap id).length = p.written := filterMap_id_length _


/-- The runs of an image hold at most the bytes that it holds (R32). -/
theorem runs_bytes (p : PageImage) : (p.runs.map fun r => r.data.length).sum ≤ p.written := by
  unfold PageImage.runs
  split
  · simp only [runAt, List.map_cons, List.map_nil, List.sum_cons, List.sum_nil, Nat.add_zero, all_filterMap, Nat.le_refl]
  · split
    · simp [runAt, written_split]; omega
    · simp [runAt, written_split]

/-- The runs of an image are at most as many as its descriptors (R28, R32). -/
theorem runs_count (i : Image) (h : i.lawful) : i.page.runs.length ≤ i.descriptors := by
  unfold PageImage.runs
  split
  · simp [Image.descriptors]; split <;> omega
  · split
    · rename_i h1 h2
      cases hs : i.second
      · have := (h.2 hs).2; simp [this] at h2
      · simp [Image.descriptors, hs]
    · simp [Image.descriptors]; split <;> omega

/-- Coalescing keeps the number of entries and of bytes (R33). -/
theorem coalesce_sums (d : Nat) (r : Run) (es es' : List Entry) (h : coalesceNewest d r es = some es') :
   es'.length = es.length ∧ entriesBytes es' = entriesBytes es := by
  induction es generalizing es' with
  | nil => simp [coalesceNewest] at h
  | cons x xs ih =>
    simp only [coalesceNewest] at h
    split at h
    · split at h
      · rename_i hh
        simp only [Option.some.injEq] at h; subst h
        simp only [Entry.holdsRun, decide_eq_true_eq] at hh
        simp [entriesBytes, Entry.overwrite]
        omega
      · simp at h
    · cases hc : coalesceNewest d r xs with
      | none => simp [hc] at h
      | some ys =>
        simp [hc] at h; subst h
        obtain ⟨a, b⟩ := ih ys hc
        simp [entriesBytes] at *
        omega

theorem entriesBytes_reverse (es : List Entry) : entriesBytes es.reverse = entriesBytes es := by simp [entriesBytes]

/-- A run taken in adds at most one entry and at most its own bytes (R33). -/
theorem takeRun_sums (st : Straps) (d : Nat) (g : Group) (r : Run) :
   (Group.takeRun st d g r).entries.length ≤ g.entries.length + 1 ∧ (Group.takeRun st d g r).byteTotal ≤ g.byteTotal + r.data.length := by
  simp only [Group.takeRun, Machine.takeRun, Group.byteTotal]
  cases hc : coalesceNewest d r g.entries.reverse with
  | none => simp [entriesBytes]
  | some rev =>
    obtain ⟨a, b⟩ := coalesce_sums _ _ _ _ hc
    simp only [entriesBytes_reverse] at *
    simp at a
    simp [a, b]

theorem byteFor_append (es : List Entry) (x : Entry) (e a : Nat) :
  (es ++ [x]).reverse.findSome? (Entry.byteFor e a) = ((Entry.byteFor e a x).or (es.reverse.findSome? (Entry.byteFor e a))) := by
  simp [List.findSome?_cons]
  cases Entry.byteFor e a x <;> rfl

theorem overwrite_byteFor (x : Entry) (d : Nat) (r : Run) (e a : Nat) (h : x.holdsRun d r = true) :
   (x.overwrite r).byteFor e a = if e = d ∧ r.start.toNat ≤ a ∧ a - r.start.toNat < r.data.length then r.data[a - r.start.toNat]? else x.byteFor e a := by
  simp only [Entry.holdsRun, decide_eq_true_eq] at h
  obtain ⟨h1, h2, h3⟩ := h
  simp only [Entry.byteFor, Entry.overwrite]
  by_cases he : e = d
  · subst he
    by_cases ha : x.start.toNat ≤ a
    · simp [h1, ha]
      rw [List.getElem?_append, List.getElem?_append]
      simp only [List.length_take, List.length_append, List.getElem?_take, List.getElem?_drop]
      rw [Nat.min_eq_left (by omega)]
      by_cases hr : r.start.toNat ≤ a
      · by_cases hl : a - r.start.toNat < r.data.length
        · have n1 : ¬ (a - x.start.toNat < r.start.toNat - x.start.toNat) := by omega
          have e1 : a - x.start.toNat - (r.start.toNat - x.start.toNat) = a - r.start.toNat := by omega
          have n2 : a - x.start.toNat < r.start.toNat - x.start.toNat + r.data.length := by omega
          simp [hr, hl, n1, e1, n2]
        · have n1 : ¬ (a - x.start.toNat < r.start.toNat - x.start.toNat) := by omega
          have n2 : ¬ a - x.start.toNat < r.start.toNat - x.start.toNat + r.data.length := by omega
          have n3 : ¬ a - x.start.toNat - (r.start.toNat - x.start.toNat) < r.data.length := by omega
          have e1 : r.start.toNat - x.start.toNat + r.data.length + (a - x.start.toNat - (r.start.toNat - x.start.toNat) - r.data.length) = a - x.start.toNat := by omega
          simp only [hr, hl, n1, n2, n3, if_false, if_true, and_false]
          rw [e1]
      · have n1 : (a - x.start.toNat < r.start.toNat - x.start.toNat) := by omega
        have n2 : a - x.start.toNat < r.start.toNat - x.start.toNat + r.data.length := by omega
        simp [hr, n1, n2]
    · have : ¬ r.start.toNat ≤ a := by omega
      simp [ha, this]
  · have : ¬ x.dev = e := by omega
    simp [he, this]

theorem coalesce_byteFor (d : Nat) (r : Run) (es es' : List Entry) (h : coalesceNewest d r es = some es') (e a : Nat) :
   es'.findSome? (Entry.byteFor e a) = if e = d ∧ r.start.toNat ≤ a ∧ a - r.start.toNat < r.data.length then r.data[a - r.start.toNat]? else es.findSome? (Entry.byteFor e a) := by
  induction es generalizing es' with
  | nil => simp [coalesceNewest] at h
  | cons x xs ih =>
    simp only [coalesceNewest] at h
    split at h
    · split at h
      · rename_i hx hh
        simp only [Option.some.injEq] at h
        subst h
        simp only [List.findSome?_cons, overwrite_byteFor x d r e a hh]
        by_cases hc : e = d ∧ r.start.toNat ≤ a ∧ a - r.start.toNat < r.data.length
        · rw [if_pos hc, if_pos hc, List.getElem?_eq_getElem hc.2.2]
        · rw [if_neg hc, if_neg hc]
      · simp at h
    · rename_i hx
      cases hc : coalesceNewest d r xs with
      | none => simp [hc] at h
      | some ys =>
        simp [hc] at h
        subst h
        simp only [List.findSome?_cons, ih ys hc]
        by_cases hcond : e = d ∧ r.start.toNat ≤ a ∧ a - r.start.toNat < r.data.length
        · have : Entry.byteFor e a x = none := by
            simp [Entry.byteFor]; intro h; exact absurd (h.trans hcond.1) hx
          rw [this, if_pos hcond]
        · rw [if_neg hcond, if_neg hcond]

/-- The newest entry of the device decides whether a run is coalesced, the list given newest first (R33). -/
theorem coalesceNewest_at (d : Nat) (r : Run) (newer : List Entry) (e : Entry) (older : List Entry)
    (hn : ∀ x ∈ newer, x.dev ≠ d) (he : e.dev = d) :
    coalesceNewest d r (newer ++ e :: older) =
      if e.holdsRun d r then some (newer ++ e.overwrite r :: older) else none := by
  induction newer with
  | nil => simp [coalesceNewest, he]
  | cons x l ih =>
    have hx : x.dev ≠ d := hn x (by simp)
    simp only [List.cons_append, coalesceNewest, if_neg hx]
    rw [ih fun y hy => hn y (by simp [hy])]
    split <;> simp

/-- Without an entry of its device a run is not coalesced (R33). -/
theorem coalesceNewest_absent (d : Nat) (r : Run) (es : List Entry) (h : ∀ x ∈ es, x.dev ≠ d) :
    coalesceNewest d r es = none := by
  induction es with
  | nil => rfl
  | cons x l ih =>
    have hx : x.dev ≠ d := h x (by simp)
    simp only [coalesceNewest, if_neg hx, ih fun y hy => h y (by simp [hy]), Option.map_none]

end Sys2Proof.Machine
end

