-- ==== Sys2Proof/Tests/Slice0.lean ====
section
/-! SUPPORT. Small checks of the model: operands that are refused, the formats and the CRC, one command at a time on
small states, and for every statement with hypotheses a state that meets them, clause by clause. -/

namespace Sys2Proof.Tests

open Sys2Proof Sys2Proof.Machine

-- One theorem after the other: the kernel's evaluations then need no thread of their own.
set_option Elab.async false

/-! ## Small states -/

/-- A setup record for home device 50h with two devices, two regions and a ring of 40 pages of 32 bytes. -/
def bodyOf (hold gen : Byte) : List Byte :=
  [0xC7, 0x1E, 1, gen, 2, 2, hold, 20, 50, 1, 0, 0, 0x40, 0, 0x28, 0, 0x50, 3, 2, 0x54, 1, 3] ++ List.replicate 10 0
    ++ [0, 0, 8, 0, 4, 1, 0, 0, 0, 2] ++ List.replicate 84 0

def withCrc (bs : List Byte) : List Byte := bs ++ wordBytes (crc16 bs)

def record : List Byte := withCrc (bodyOf 25 5)

def tabs : Tables where
  devices := [{ addr := 0x50, capacity := 32768, pageSize := 32 }, { addr := 0x54, capacity := 8192, pageSize := 64 }]
  regions := [{ dev := 0, firstPage := 8, pageCount := 4 }, { dev := 1, firstPage := 0, pageCount := 2 }]
  ring := some { dev := 0, firstPage := 64, pageCount := 40 }
  holdLimit := 25
  pollLimit := 20
  idleLimit := 50
  speed := .khz400
  generation := 5

/-- Out of reset and UNCONFIGURED, the gate OPEN, between frames. -/
def unc : State :=
  { State.reset with
    inReset := false, setup := { Setup.reset with phase := .none }, port := { Port.reset with gate := .opn } }

/-- CONFIGURED under the sample tables, the gate OPEN, between frames. -/
def cfg : State :=
  { unc with
    setup := { Setup.reset with config := .configured, tables := tabs, phase := .none }
    queue := { openGroup := some Group.empty, sealed := [], lost := false }
    journal := { Journal.reset with head := 64 }
    down := { Downstream.reset with states := [.ready, .ready], speed := .khz400 } }

def inF (f : Frame) (s : State) : State := { s with port := { s.port with frame := some f, idleTimer := some 50 } }

def heldAt (h : HoldPoint) (s : State) : State :=
  { s with port := { s.port with hold := h, holdTimer := some 25, idleTimer := none } }

/-- A hold at this point has been decided, in the clock pulse before it. -/
def dueAt (h : HoldPoint) (s : State) : State := { s with port := { s.port with hold := h } }

def fr : Frame := newFrame tabs

/-- A write frame to a device index, classified at an address, with a count of acknowledged data bytes. -/
def wf (c : FrameClass) (d : Nat) (a : Word) (n : Nat) : Frame :=
  { fr with
    direction := some .write, devAddr := 0x50, dev := some d, cls := c, headerBytes := 3, start := some a, acked := n }

def markF (v : Byte) : Frame := { wf .mark 0 0x80 1 with markByte := some v }

def readF : Frame := { fr with direction := some .read, devAddr := 0x50, dev := some 0, cls := .read, headerBytes := 1 }

def relayF (d : Direction) (n : Nat) : Frame :=
  { fr with direction := some d, devAddr := 0x20, cls := .relay, headerBytes := 1, acked := n }

def relayTo (d : Direction) (st : RelayStage) : Relay :=
  { addr := 0x20, direction := d, opened := decide (st ≠ .requested), naked := false, home := none, stage := st, byte := 0x40 }

def homeRelay (byteRelayed : Bool) (st : RelayStage) : Relay :=
  { relayTo .write st with addr := 0x50, home := some { start := 0x0000, byteRelayed := byteRelayed } }

def granted (r : Requester) (s : State) : State := { s with down := { s.down with grant := some r } }

def acting (r : Requester) (a : Activity) (s : State) : State :=
  { s with down := { s.down with grant := some r, activity := a } }

/-- The upstream side of the granted READ or RELAY has ended. -/
def ending (s : State) : State := { s with down := { s.down with ended := true } }

def pollOf (follows attempt : Bool) : Poll :=
  { addr := 0x50, limit := 20, followsWrite := follows, afterRefusal := false, attempt := attempt }

def polled (r : Requester) (p : Poll) (s : State) : State :=
  { s with down := { s.down with grant := some r, poll := some p } }

def devices (x y : DevState) (s : State) : State := { s with down := { s.down with states := [x, y] } }

def reads (ph : ReadPhase) (snap : Option (List Byte)) (s : State) : State :=
  { s with read := { dev := 0, phase := ph, snapshot := snap } }

def relays (r : Relay) (s : State) : State := { s with relay := some r }

def slots (x y : Slot) (s : State) : State := { s with forward := { one := x, two := y } }

def page (n start : Nat) : PageImage := PageImage.opened n (BitVec.ofNat 16 start)

def collecting : Slot := .collecting 1 0x1000 (page 64 0x1000)

def waiting : Slot := .waiting 1 [{ start := 0x1000, data := [0xAA] }]

def performing : Slot := .performing 1 [{ start := 0x1000, data := [0xAA] }]

def entry : Entry := { dev := 0, start := 0x0100, data := [0x10, 0x11] }

/-- A sealed group of one entry with a record of one page at the head. -/
def grp (st : GroupState) : Group :=
  { state := st, tag := some 0x2D, seq := some 1, entries := [entry], placement := some { first := 64, count := 1 }
    progress := 0, passes := 1, touchesSetup := false }

/-- The engine at a step of a sealed group, its record live. -/
def atStep (p : Phase) (g : Group) (s : State) : State :=
  { s with
    queue := { s.queue with sealed := [g] }
    journal := { s.journal with live := g.placement }
    engine := { s.engine with state := .phase p } }

def openGrp (es : List Entry) (s : State) : State :=
  { s with queue := { s.queue with openGroup := some { Group.empty with entries := es } } }

def withImage (s : State) : State :=
  { s with store := { s.store with image := some { dev := 0, page := (page 32 0x100).write 0 0xAA, second := false } } }

def loading (ph : EntryPhase) (s : State) : State := { s with setup := { s.setup with phase := ph } }

def paused (s : State) : State := { s with engine := { s.engine with pauseRequested := true } }

/-- The refusal a command meets, if any. -/
def refusal (c : Instr) (s : State) : Option Refusal :=
  match exec c s with
  | .refused r => some r
  | _ => none

/-- The state after a command, if it answers a next one. -/
def after (c : Instr) (s : State) : Option State :=
  match exec c s with
  | .next t => some t
  | _ => none

/-! ## Facts that hold where a computation says so -/

theorem markArrives_between {v : Byte} {s : State} (h : s.port.gate = .opn ∧ s.port.frame = none) : s.markArrives v :=
  ⟨h.1, Or.inl h.2⟩

theorem markArrives_atStop {v : Byte} {s : State} (f : Frame)
    (h : s.port.gate = .opn ∧ s.port.frame = some f ∧ f.carries v = true ∧ s.port.hold = .none ∧ 0 < f.acked
      ∧ s.relay = none) : s.markArrives v :=
  ⟨h.1, Or.inr ⟨f, h.2⟩⟩

theorem writing_acting {r : Requester} {a : DevAddr} {s : State} (w : Word) (bs : List Byte)
    (h : (s.reloadDue = false ∧ s.swapDue = false) ∧ s.down.grant = some r
      ∧ s.down.clearing = false ∧ s.down.poll = none ∧ s.down.activity = .write a w bs) : writing s r a :=
  ⟨h.1, h.2.1, h.2.2.1, h.2.2.2.1, w, bs, h.2.2.2.2⟩

theorem reading_acting {r : Requester} {n : Nat} {s : State} (a : DevAddr) (w : Word)
    (h : (s.reloadDue = false ∧ s.swapDue = false) ∧ s.down.grant = some r
      ∧ s.down.clearing = false ∧ s.down.poll = none ∧ s.down.activity = .read a w n) : reading s r n :=
  ⟨h.1, h.2.1, h.2.2.1, h.2.2.2.1, a, w, h.2.2.2.2⟩

/-! ## Operands that a command refuses -/

theorem test_seal_illFormed :
    refusal (.seal 0x00) cfg = some .illFormed ∧ refusal (.seal 0xF0) cfg = some .illFormed
      ∧ (Instr.seal 0x01).wellFormed = true ∧ (Instr.seal 0xEF).wellFormed = true := by decide +kernel

theorem test_invalidMark_illFormed :
    refusal (.invalidMark 0xF3) cfg = some .illFormed ∧ (Instr.invalidMark 0xF4).wellFormed = true := by decide +kernel

theorem test_reads_illFormed :
    refusal (.setupReadDone (List.replicate 127 0)) cfg = some .illFormed
      ∧ refusal (.scanHeaderReadDone (List.replicate 15 0)) cfg = some .illFormed
      ∧ refusal (.verifyReadDone (List.replicate 20 0)) cfg = some .illFormed
      ∧ refusal (.verifyReadDone (List.replicate 1233 0)) cfg = some .illFormed
      ∧ refusal (.scanRecordReadDone (List.replicate 15 0)) cfg = some .illFormed := by decide +kernel

theorem test_outOfPlace :
    refusal .pollAttemptAcknowledged cfg = some .outOfPlace ∧ refusal .holdTimerExpiryA cfg = some .outOfPlace
      ∧ refusal .setupSwap cfg = some .outOfPlace ∧ refusal (.resetRelease 0 false) cfg = some .outOfPlace := by
  decide +kernel

/-! ## Formats -/

/-- The two check values of R187. -/
theorem test_crc : crc16 [] = 0xFFFF ∧ crc16 [0x31, 0x32, 0x33, 0x34, 0x35, 0x36, 0x37, 0x38, 0x39] = 0x29B1 := by
  decide +kernel

set_option maxRecDepth 100000 in
theorem test_record : record.length = 128 ∧ validate { ha := 0, sb := false } record = .none ∧ tablesOf record = tabs := by
  decide +kernel

set_option maxRecDepth 100000 in
theorem test_record_wrongHome : validate { ha := 1, sb := false } record = .badDevice := by decide +kernel

/-- The three examples of R186, and the byte while UNCONFIGURED. -/
theorem test_bytes_of_status :
    (devices .ready .faulted cfg).deviceStatesByte = 0xF8 ∧ unc.deviceStatesByte = 0xFF
      ∧ ({ cfg with window := { cfg.window with done := true, fwdFail := true } }).flagsByte = 0x05
      ∧ (paused { cfg with engine := { cfg.engine with state := .halted } }).flagsByte = 0x42 := by
  decide +kernel

theorem test_status_unconfigured :
    unc.statusRecord =
      [0x01, 0, 0, 0, 0, 0, 0, 0, 0, 0, 0, 0, 0x04, 0x00, 48, 0, 0, 0, 0, 0xFF, 0, 0, 0, 0, 0x00, 0x01, 0, 0, 0xFF, 0, 0, 0xFF] := by
  decide +kernel

/-! ## One command at a time -/

theorem test_mark_seals_and_starts :
    ∃ t, after .stop (inF (markF 0x2D) (openGrp [entry] cfg)) = some t
      ∧ t.engine.state = .phase .journal ∧ t.down.grant = some .engine ∧ t.window.lastMark = 0x2D
      ∧ t.queue.sealed.map Group.seqOrZero = [1] ∧ t.journal.nextSeq = 2
      ∧ t.journal.live = some { first := 64, count := 1 } :=
  ⟨_, rfl, by decide +kernel⟩

theorem test_staged_byte_coalesces :
    (({ Group.empty with entries := [entry] }).takeRun { ha := 0, sb := false } 0 { start := 0x0101, data := [0x99] }).entries
      = [{ dev := 0, start := 0x0100, data := [0x10, 0x99] }] := by decide +kernel

theorem test_page_wraps : pageAdvance 32 0x011F = 0x0100 ∧ readAdvance 4096 0x0FFF = 0x0000 := by decide +kernel

/-- R145, R157: a relay cut off at A finishes its byte, then its closing conditions, in which a stuck bus may be found;
they are sent before the next event that cannot come within them, or where no command waits. -/
theorem test_relay_winds_up :
    let s := granted .relay (relays (relayTo .write .byteSent) (heldAt .a (inF (relayF .write 0) cfg)))
    ∃ t, after .holdTimerExpiryA s = some t ∧ t.down.grant = some .relay ∧ t.relay = none
      ∧ ∃ u, after (.relayAnswer true) t = some u ∧ u.down.grant = some .relay
        ∧ u.down.activity = .closing .restartStop false ∧ u.closingDue = true ∧ u.port = t.port
        ∧ (after .stuckBusDetected u).map (fun v => v.down.clearing) = some true
        ∧ refusal (.memoryByteHeld 0) u = some .outOfPlace
        ∧ ∃ v, step u = .next v ∧ v.down.grant = none ∧ v.port = u.port :=
  ⟨_, rfl, by decide +kernel, by decide +kernel, _, rfl, by decide +kernel, by decide +kernel, by decide +kernel,
    by decide +kernel, by decide +kernel, by decide +kernel, _, rfl, by decide +kernel, by decide +kernel⟩

/-- R144, R145: a stop closes a relay with a stop; an abnormal end closes one in write direction with a repeated start
and a stop, so that the memory writes nothing, and one in read direction with a NAK for the held byte and a stop. -/
theorem test_closing_of_a_relay :
    let s (r : Relay) := granted .relay (relays r (inF (relayF r.direction 1) cfg))
    let closedBy (c : Instr) (r : Relay) := (after c (s r)).map fun t => t.down.activity
    closedBy .stop (relayTo .write .opn) = some (.closing .stop false)
      ∧ closedBy (.misplacedCondition false) (relayTo .write .opn) = some (.closing .restartStop false)
      ∧ closedBy .idleTimerExpiry (homeRelay true .opn) = some (.closing .restartStop true)
      ∧ closedBy .idleTimerExpiry (relayTo .read .readHeld) = some (.closing .nakStop false)
      ∧ closedBy .idleTimerExpiry (relayTo .read .drained) = some (.closing .stop false)
      ∧ closedBy .idleTimerExpiry (relayTo .write .restarted) = some (.closing .stop false) := by decide +kernel

/-- R159: a bus clear in the poll at a relayed home write's grant is followed by the next attempt, the byte held. -/
theorem test_clear_in_the_poll_of_a_relay :
    let s := polled .relay (pollOf false true)
      (relays (homeRelay false .polling) (heldAt .a (inF (wf .relay 0 0 0) unc)))
    ∃ t u, after .stuckBusDetected s = some t ∧ after (.busClearAttemptEnd true) t = some u
      ∧ u.down.poll.map Poll.attempt = some true ∧ u.down.grant = some .relay ∧ u.port = s.port ∧ u.relay = s.relay :=
  ⟨_, _, rfl, rfl, by decide +kernel⟩

/-- R97, R157: a READ cut off with a byte held still has its NAK and its stop on the segment. -/
theorem test_read_closes_after_a_held_byte :
    ∃ t, after .stop (acting .read .held (reads .streaming none (inF readF cfg))) = some t
      ∧ t.down.grant = some .read ∧ t.down.activity = .closing .nakStop false ∧ t.drivesBus = true
      ∧ t.elapse.down.grant = none :=
  ⟨_, rfl, by decide +kernel⟩

/-- R118, R131: a misplaced condition and the idle timer's expiry come in the clock pulse before a hold, and not once
the clock is held. -/
theorem test_hold_is_decided_then_taken :
    let s := dueAt .b (acting .read .byte (reads .streaming none (inF readF cfg)))
    (∀ c ∈ [Instr.misplacedCondition false, .misplacedCondition true, .idleTimerExpiry],
      ((after c s).map fun t => t.read.phase) = some .none ∧ refusal c s.elapse = some .outOfPlace)
      ∧ s.elapse.port.holdTimer = some 25 ∧ s.elapse.port.idleTimer = none := by decide +kernel

/-- R18, R135: the swap waits until a READ whose frame has ended is wound up downstream. -/
theorem test_swap_waits_for_the_winding_up :
    let s (d : State → State) :=
      d { cfg with setup := { cfg.setup with reload := .waitSwap, holding := some record } }
    (s (fun u => ending (acting .read .byte u))).swapDue = false
      ∧ (s (fun u => ending (acting .read (.closing .stop false) u))).swapDue = false
      ∧ (s (fun u => ending (acting .read (.closing .stop false) u))).takeClosing.swapDue = true := by decide +kernel

/-- A reload's setup read on the segment, its attempts made before, with these internal requests waiting. -/
def reloadRead (n : Nat) (waiting : List Requester) (s : State) : State :=
  let t := acting .setupRead (.read 0x50 0 128) s
  { t with
    setup := { t.setup with reload := .reading, readAttempts := n }
    down := { t.down with intReqs := waiting } }

/-- R8, R16, R51, R170: with an engine step waiting a refused reload read leaves READING, so that the step may halt the
engine; its repeat is requested once the group has retired, as the load's next attempt. -/
theorem test_refused_reload_read_leaves_reading :
    let s := reloadRead 0 [.engine] (atStep .commit (grp .committing) cfg)
    ∃ t, after .readFrameRefused s = some t
      ∧ (t.down.grant, t.down.intReqs, t.setup.reload, t.setup.readAttempts) = (some .engine, [], .waitRead, 1)
      ∧ t.reloadDue = false
      ∧ ((after .reloadReadRequest { cfg with setup := t.setup }).map fun u =>
          (u.down.grant, u.setup.reload, u.setup.readAttempts, u.setup.repeatDue))
        = some (some .setupRead, .reading, 1, false) :=
  ⟨_, rfl, by decide +kernel⟩

/-- R8, R150: with no engine step waiting the repeat is requested at once. -/
theorem test_refused_reload_read_is_repeated :
    (after .readFrameRefused (reloadRead 1 [] cfg)).map
      (fun t => (t.down.grant, t.setup.reload, t.setup.readAttempts)) = some (some .setupRead, .reading, 2) := by
  decide +kernel

/-- R127: USCL is low from the end of the clock pulse before a hold. -/
theorem test_usclLow_once_the_hold_is_taken :
    let s := dueAt .b (acting .read .byte (reads .streaming none (inF readF cfg)))
    s.usclLow = false ∧ s.elapse.usclLow = true := by decide +kernel

/-- R94, R157: the header of a READ frame refused by the expiry runs on, and a stuck bus may be found in it. -/
theorem test_expired_read_winds_up :
    let s := acting .read (.header 0x50 0) (reads .opening none (heldAt .a (inF readF cfg)))
    ∃ t, after .holdTimerExpiryA s = some t ∧ t.read.phase = .dead ∧ t.drivesBus = true
      ∧ (after (.readHeaderDone true) t).map (fun u => u.down.activity) = some .byte
      ∧ (after (.readHeaderDone false) t).map (fun u => u.down.activity) = some (.closing .stop false)
      ∧ (after .stop t).map (fun u => u.down.grant) = some (some .read) :=
  ⟨_, rfl, by decide +kernel⟩

/-- R49: a group sealed under a pause waits; the engine at rest has no current group. -/
theorem test_current_group :
    let s := atStep .commit (grp .committing) cfg
    let idle : State := { s with engine := { s.engine with state := .idle } }
    let rest : State := { s with engine := { s.engine with state := .paused, remembered := some .idle } }
    s.currentGroup = some (grp .committing) ∧ idle.currentGroup = none ∧ rest.currentGroup = none := by decide +kernel

theorem test_reset_then_release :
    ∃ t, after (.resetRelease 2 false) State.reset = some t
      ∧ t.down.poll.map Poll.addr = some 0x52 ∧ t.down.grant = some .homePoll ∧ t.setup.phase = .polling :=
  ⟨_, rfl, by decide +kernel⟩

/-! ## The hypotheses of the statements can be met -/

theorem witness_StepTakesFrontCommand :
    ({ cfg with pending := [.stop] }).pending = .stop :: [] ∧ cfg.pending = [] ∧ cfg.port.hold = .none
      ∧ cfg.closingDue = false ∧ (acting .read (.closing .stop false) cfg).closingDue = true
      ∧ ∀ h ∈ [HoldPoint.a, .b],
        let s := dueAt h (inF readF cfg)
        s.pending = [] ∧ s.closingDue = false ∧ s.port.frame = some readF ∧ s.port.hold ≠ .none := by
  decide +kernel

theorem witness_CommandsKeepTheQueue : exec .stop cfg = .next cfg := rfl

/-- Either step can be due; an event that cannot come in closing conditions, and a swap that waits for them. -/
theorem witness_DueStepsComeFirst :
    let swap (s : State) : State := { s with setup := { s.setup with reload := .waitSwap, holding := some record } }
    let closing := ending (acting .read (.closing .stop false) cfg)
    let held := heldAt .a (inF (relayF .write 0) closing)
    (.stop ≠ Instr.reset ∧ (∀ ha sb, Instr.stop ≠ .resetRelease ha sb) ∧ Instr.stop ≠ .reloadReadRequest
      ∧ Instr.stop ≠ .setupSwap ∧ Instr.pollIntervalElapsed ≠ .reset
      ∧ (∀ ha sb, Instr.pollIntervalElapsed ≠ .resetRelease ha sb) ∧ Instr.pollIntervalElapsed ≠ .reloadReadRequest
      ∧ Instr.pollIntervalElapsed ≠ .setupSwap)
      ∧ ({ cfg with setup := { cfg.setup with reload := .waitRead } }).reloadDue = true ∧ (swap cfg).swapDue = true
      ∧ (closing.nothingDue ∧ closing.closingDue = true ∧ exec .pollIntervalElapsed closing = .refused .outOfPlace)
      ∧ ((∀ c ∈ [Instr.writeFrameSent, .memoryByteHeld 0, .busClearAttemptEnd true, .pollExpired, .relayAnswer true,
          .holdTimerExpiryA, .holdTimerExpiryB, .idleTimerExpiry], outsideClosing c closing)
        ∧ ∀ c ∈ [Instr.start, .stop, .discard, .deviceByte 0, .misplacedCondition true], outsideClosing c held)
      ∧ (held.nothingDue ∧ held.closingDue = true ∧ closing.down.poll = none)
      ∧ (swap closing).swapDue = false ∧ (swap closing).takeClosing.swapDue = true := by
  refine ⟨⟨by decide, by intros; simp, by decide, by decide, by decide, by intros; simp, by decide, by decide⟩,
    by decide +kernel, by decide +kernel, ⟨by simp only [State.nothingDue]; decide +kernel, by decide +kernel, rfl⟩,
    ⟨by simp [outsideClosing, ending, acting, cfg, unc, Port.reset, Downstream.reset],
      by simp [outsideClosing, heldAt, inF, ending, acting, relayF, fr, newFrame, cfg, unc]⟩,
    by simp only [State.nothingDue]; decide +kernel, by decide +kernel, by decide +kernel⟩

theorem witness_ReleaseStartsHomePoll : State.reset.inReset = true ∧ cfg.inReset = false := by decide +kernel

theorem witness_StartBeginsFrame :
    (cfg.nothingDue ∧ cfg.port.frame = none ∧ cfg.inReset = false)
      ∧ State.reset.nothingDue ∧ State.reset.port.frame = none ∧ State.reset.inReset = true := by
  simp only [State.nothingDue] <;> decide +kernel

theorem witness_StopFinalisesStagedFrame :
    let f := wf .staged 0 0x100 1
    let g := { wf .staged 0 0x100 0 with refusedData := true }
    ((inF f (withImage cfg)).calm ∧ (inF f (withImage cfg)).inFrame f ∧ (inF f (withImage cfg)).relay = none
      ∧ f.cls = .staged ∧ f.hasData ∧ (inF f (withImage cfg)).store.image.isSome = true)
      ∧ ((inF g cfg).calm ∧ (inF g cfg).inFrame g ∧ g.hasData ∧ (inF g cfg).store.image = none)
      ∧ ((∀ x ∈ [entry], x.dev ≠ 1) ∧ [entry] = [] ++ entry :: [] ∧ entry.dev = 0)
      ∧ (∀ r ∈ [(0x0101, 1), (0x0100, 2)], entry.start.toNat ≤ r.1 ∧ r.1 + r.2 ≤ entry.start.toNat + entry.data.length)
      ∧ ∀ r ∈ [(0x0101, 2), (0x00FF, 1)],
        ¬ (entry.start.toNat ≤ r.1 ∧ r.1 + r.2 ≤ entry.start.toNat + entry.data.length) := by
  simp only [State.calm, State.nothingDue, State.settled, State.inFrame, Frame.hasData] <;> decide +kernel

/-- R32, R137: the runs of an image that has not wrapped, of one written whole, and of one with positions left. -/
theorem test_cutRuns :
    let p : PageImage := { base := 8, startOff := 2, cells := [none, none, some 1, some 2], counter := 3, wrapped := false }
    cutRuns p = [{ start := 10, data := [1, 2] }]
      ∧ cutRuns (collectedPage p 7) = [{ start := 10, data := [1, 7] }]
      ∧ cutRuns (collectedPage (collectedPage p 7) 8) = [{ start := 10, data := [1, 7] }, { start := 8, data := [8] }]
      ∧ cutRuns { p with cells := [some 3, some 4, some 1, some 2], wrapped := true } =
          [{ start := 8, data := [3, 4, 1, 2] }] := by decide +kernel

/-- Each of the four kinds of frame, a header of two bytes at the bound. -/
theorem witness_OtherEndsDropTheFrame :
    let u := { fr with headerBytes := 2 }
    (∀ f ∈ [wf .staged 0 0x100 1, markF 0xF1, { wf .refused 0 0x800 0 with refusedData := true }],
      (inF f cfg).calm ∧ (inF f cfg).inFrame f ∧ (inF f cfg).inReset = false ∧ (inF f cfg).relay = none ∧ f.hasData
        ∧ (inF f cfg).port.idleTimer ≠ none)
      ∧ (inF u cfg).calm ∧ (inF u cfg).inFrame u ∧ u.cls = .undecided ∧ u.headerBytes < 3 := by
  simp only [State.calm, State.nothingDue, State.settled, State.inFrame, Frame.hasData] <;> decide +kernel

theorem witness_HeaderAloneOnlySetsTheAddress :
    let f := wf .posted 1 0x1000 0
    let s := slots .free collecting (inF f cfg)
    let t := inF (wf .staged 0 0x100 0) cfg
    (s.calm ∧ s.inFrame f ∧ s.inReset = false ∧ s.relay = none ∧ f.headerBytes = 3 ∧ f.acked = 0
      ∧ f.refusedData = false ∧ f.markByte = none ∧ s.forward.collectingSlot = some .two)
      ∧ t.calm ∧ t.forward.collectingSlot = none := by
  simp only [State.calm, State.nothingDue, State.settled, State.inFrame] <;> decide +kernel

theorem witness_PostedFrameEnds :
    let f := wf .posted 1 0x1000 1
    let g := { wf .posted 1 0x1000 0 with refusedData := true }
    let s := slots collecting .free (inF f cfg)
    let t := slots collecting .free (inF g cfg)
    (s.calm ∧ s.inFrame f ∧ s.relay = none ∧ f.cls = .posted ∧ 0 < f.acked ∧ s.forward.collectingSlot = some .one
      ∧ s.forward.get .one = .collecting 1 0x1000 (page 64 0x1000) ∧ s.down.grant = none ∧ s.devState 1 = .ready)
      ∧ ((granted .engine s).calm ∧ (granted .engine s).down.grant ≠ none)
      ∧ t.calm ∧ t.inFrame g ∧ t.inReset = false ∧ g.hasData ∧ g.acked = 0 ∧ t.port.idleTimer ≠ none
      ∧ s.port.idleTimer ≠ none := by
  simp only [State.calm, State.nothingDue, State.settled, State.inFrame, Frame.hasData] <;> decide +kernel

/-- The marks at every boundary of section 6.2. -/
theorem witness_StopActsOnTheMark :
    ∀ v ∈ ([0x00, 0x01, 0xEF, 0xF0, 0xF1, 0xF2, 0xF3, 0xF4, 0xFF] : List Byte),
      (inF (markF v) cfg).nothingDue ∧ (inF (markF v) cfg).inFrame (markF v) ∧ (inF (markF v) cfg).relay = none
        ∧ (inF (markF v) cfg).port.gate = .opn ∧ (markF v).cls = .mark ∧ (markF v).markByte = some v
        ∧ 0 < (markF v).acked := by
  simp only [State.nothingDue, State.inFrame] <;> decide +kernel

/-- A frame that streams, and dead ones that poll, that have a header or nothing on the segment, and that were never
granted; frames in the clock pulse before a hold at A and at B; and the closing conditions of either kind. -/
theorem witness_ReadFrameEnds :
    let dead := { readF with dead := true }
    let s := acting .read .held (reads .streaming none (inF readF cfg))
    let d := reads .dead none (inF dead cfg)
    let a := dueAt .a (granted .engine (reads .requested none (inF readF cfg)))
    (∀ x ∈ [(readF, s), (dead, polled .read (pollOf false true) d), (dead, acting .read (.header 0x50 0) d),
        (dead, granted .read d), (dead, d), (readF, dueAt .b (acting .read .byte s)),
        (readF, { a with down := { a.down with upFifo := [.read] } })],
      x.2.calm ∧ x.2.port.frame = some x.1 ∧ x.2.inReset = false ∧ x.2.relay = none ∧ x.1.cls = .read
        ∧ x.1.headerBytes < 3
        ∧ (x.2.down.grant = some .read → x.2.down.ended = false → x.2.down.upFifo = [] ∧ x.2.down.intReqs = [])
        ∧ x.2.port.holdTimer = none ∧ x.2.port.idleTimer ≠ none)
      ∧ (s.port.hold = .none ∧ d.down.grant ≠ some .read)
      ∧ ∀ how ∈ [Closing.stop, .nakStop],
        ∀ c ∈ [acting .read (.closing how false) cfg, ending (acting .read (.closing how false) cfg)],
        c.down.activity = .closing how false ∧ c.down.clearing = false ∧ c.down.grant = some .read ∧ c.down.upFifo = []
          ∧ c.down.intReqs = [] := by
  simp only [State.calm, State.nothingDue, State.settled] <;> decide +kernel

/-- Relays to an address not served in either direction, after their device byte alone and after data, and to the home
device with and without a byte; the frame after a repeated start; the clock pulse before a hold, a byte going each way;
and the closing conditions of either kind. -/
theorem witness_RelayEndsAtTheCondition :
    let home := wf .relay 0 0 1
    (∀ x ∈ [(HoldPoint.none, relayF .write 0, relayTo .write .opn), (.none, relayF .write 1, relayTo .write .opn),
        (.none, relayF .read 0, relayTo .read .readHeld), (.none, relayF .read 0, relayTo .read .drained),
        (.none, home, homeRelay true .opn), (.none, home, homeRelay false .opn), (.none, fr, relayTo .write .restarted),
        (.a, relayF .write 0, relayTo .write .deviceSent), (.a, relayF .write 0, relayTo .write .byteSent),
        (.b, relayF .read 0, relayTo .read .readByte), (.a, wf .relay 0 0 0, homeRelay false .byteSent)],
      let s := granted .relay (relays x.2.2 (dueAt x.1 (inF x.2.1 unc)))
      s.nothingDue ∧ s.port.frame = some x.2.1 ∧ x.2.1.dead = false ∧ s.inReset = false
        ∧ ((x.2.1.cls = .relay ∧ (x.2.1.headerBytes = 1 ∨ x.2.1.hasData ∨ s.port.hold ≠ .none))
          ∨ (x.2.1.cls = .undecided ∧ x.2.1.headerBytes = 0))
        ∧ s.relay = some x.2.2 ∧ x.2.2.opened = true ∧ x.2.2.stage ≠ .stuck ∧ s.port.hold = x.1
        ∧ s.down.grant = some .relay ∧ s.down.ended = false ∧ s.down.clearing = false ∧ s.down.poll = none
        ∧ s.port.holdTimer = none ∧ s.port.idleTimer ≠ none)
      ∧ (∀ a ∈ [LoadAttempt.none, .awaitPoll, .requested, .granted],
        let s := granted .relay (relays (homeRelay true .opn)
          (inF home { unc with setup := { unc.setup with attempt := a } }))
        s.nothingDue ∧ s.relay = some (homeRelay true .opn) ∧ s.setup.attempt = a
          ∧ inArea (setupBase s.setup.straps) (0 : Word).toNat = true)
      ∧ ((relayTo .write .opn).home = none ∧ (homeRelay true .opn).home = some { start := 0, byteRelayed := true })
      ∧ ∀ how ∈ [Closing.stop, .restartStop, .nakStop], ∀ home ∈ [true, false],
        let c := ending (acting .relay (.closing how home) unc)
        c.down.activity = .closing how home ∧ c.down.clearing = false ∧ c.down.grant = some .relay ∧ c.down.ended = true
          ∧ c.setup.config = .unconfigured ∧ c.down.states = [.ready] ∧ c.down.upFifo = [] ∧ c.down.intReqs = [] := by
  simp only [State.nothingDue, Frame.hasData] <;> decide +kernel

theorem witness_BytesWithoutALiveFrame :
    let f := { fr with dead := true }
    ((inF f cfg).nothingDue ∧ (inF f cfg).port.frame = some f ∧ f.dead = true)
      ∧ cfg.nothingDue ∧ cfg.port.frame = none := by
  simp only [State.nothingDue] <;> decide +kernel

theorem witness_DeviceByteAtTheGate :
    let refusing : State := { inF fr cfg with port := { (inF fr cfg).port with gate := .refusing } }
    (refusing.calm ∧ refusing.inFrame fr ∧ fr.headerBytes = 0 ∧ refusing.relay = none ∧ refusing.port.gate = .refusing)
      ∧ (inF fr cfg).calm ∧ (inF fr cfg).inFrame fr ∧ (inF fr cfg).port.gate = .opn
      ∧ (inF fr cfg).indexOf 0x54 = some 1 ∧ (inF fr unc).indexOf 0x50 = some 0 := by
  simp only [State.calm, State.nothingDue, State.settled, State.inFrame] <;> decide +kernel

theorem witness_ServedReadIsRequested :
    (∀ s ∈ [inF fr cfg, granted .engine (inF fr cfg), inF fr (devices .ready .busy cfg),
        inF fr (devices .ready .faulted cfg)],
      s.calm ∧ s.inFrame fr ∧ fr.headerBytes = 0 ∧ s.relay = none ∧ s.port.gate = .opn ∧ s.indexOf 0x54 = some 1)
      ∧ (granted .engine (inF fr cfg)).down.grant ≠ none ∧ (inF fr cfg).down.grant = none
      ∧ (inF fr cfg).devState 1 = .ready ∧ (inF fr (devices .ready .busy cfg)).devState 1 = .busy
      ∧ (inF fr (devices .ready .faulted cfg)).devState 1 = .faulted := by
  simp only [State.calm, State.nothingDue, State.settled, State.inFrame] <;> decide +kernel

theorem witness_DeviceByteOfARelay :
    let r := relayTo .write .restarted
    let s := granted .relay (relays r (inF fr cfg))
    (∀ t ∈ [inF fr cfg, granted .engine (inF fr cfg), s],
      t.calm ∧ t.inFrame fr ∧ fr.headerBytes = 0 ∧ t.port.gate = .opn ∧ t.indexOf 0x20 = none)
      ∧ ((inF fr cfg).relay = none ∧ (inF fr cfg).down.grant = none ∧ (granted .engine (inF fr cfg)).down.grant ≠ none)
      ∧ (s.relay = some r ∧ r.stage = .restarted ∧ r.home = none ∧ r.addr = 0x20 ∧ r.opened = true)
      ∧ s.nothingDue ∧ s.indexOf 0x50 = some 0 ∧ s.down.grant = some .relay ∧ s.down.ended = false
      ∧ s.down.clearing = false ∧ s.down.poll = none ∧ s.down.upFifo = [] ∧ s.down.intReqs = [] := by
  simp only [State.calm, State.nothingDue, State.settled, State.inFrame] <;> decide +kernel

/-- The classes at the bounds of their ranges, and a start address reduced modulo the capacity. -/
theorem witness_HeaderClassesTheFrame :
    let f := { fr with dev := some 0, headerBytes := 1 }
    let g := { fr with dev := some 0, headerBytes := 2, addrHigh := 0x81 }
    let cls := fun a => classify cfg.setup.straps cfg.setup.tables 0 a
    ((inF f cfg).nothingDue ∧ (inF f cfg).inFrame f ∧ f.cls = .undecided ∧ f.dev = some 0 ∧ f.headerBytes = 1)
      ∧ ((inF g cfg).nothingDue ∧ (inF g cfg).inFrame g ∧ g.headerBytes = 2 ∧ cfg.setup.config = .configured)
      ∧ (cls 0x7F = .setup ∧ cls 0x80 = .control ∧ cls 0xFF = .control ∧ cls 0x100 = .guarded ∧ cls 0x17F = .guarded
        ∧ cls 0x180 = .opn ∧ cls 0x7FF = .opn ∧ cls 0x800 = .ring ∧ cls 0xCFF = .ring ∧ cls 0xD00 = .opn)
      ∧ (g.addrHigh ++ (0x00 : Byte)).toNat % cfg.setup.tables.capacity 0 = 0x100
      ∧ (cfg.forward.freeSlot = some .one ∧ (slots waiting waiting cfg).forward.freeSlot = none)
      ∧ (inF g unc).nothingDue ∧ (inF g unc).setup.config = .unconfigured
      ∧ inArea (windowBase unc.setup.straps) 0x80 = true ∧ inArea (windowBase unc.setup.straps) 0x100 = false := by
  simp only [State.nothingDue, State.inFrame] <;> decide +kernel

/-- A reservation that is met, one that is not for want of pool bytes, and the two conditions that refuse it. -/
theorem witness_StagedByteReservesOrLoses :
    let f := wf .staged 0 0x100 0
    let g := { wf .staged 0 0x100 1 with refusedData := true }
    let full := openGrp (List.replicate 8 { dev := 0, start := 0x100, data := List.replicate 128 0 }) cfg
    let lost : State := { cfg with queue := { cfg.queue with lost := true } }
    ((inF f cfg).nothingDue ∧ (inF f cfg).inFrame f ∧ f.cls = .staged ∧ f.dev = some 0 ∧ f.start = some 0x100
      ∧ (inF f cfg).queue.lost = false ∧ f.refusedData = false ∧ (inF f cfg).canReserve 0 0x100 0x33 = true)
      ∧ ((inF f full).nothingDue ∧ (inF f full).canReserve 0 0x100 0x33 = false)
      ∧ ((inF f lost).nothingDue ∧ (inF f lost).queue.lost = true)
      ∧ (inF g cfg).nothingDue ∧ (inF g cfg).inFrame g ∧ g.refusedData = true := by
  simp only [State.nothingDue, State.inFrame] <;> decide +kernel

theorem witness_WhatAReservationNeeds :
    let at31 : State :=
      { cfg with store := { cfg.store with image := some { dev := 0, page := page 32 0x11F, second := false } } }
    ({ cfg with store := { cfg.store with claims := [grp .applying] } }).store.claims ≠ []
      ∧ (cfg.store.claims = [] ∧ cfg.store.image = none ∧ 0 < cfg.setup.tables.pageSize 0)
      ∧ ((withImage cfg).store.image.map fun i => (i.page.counter + 1) % i.page.cells.length) = some 1
      ∧ (at31.store.image.map fun i => (i.page.counter + 1) % i.page.cells.length) = some 0
      ∧ (at31.store.image.map fun i => (i.page.cells.getD 0 none, i.second)) = some (none, false)
      ∧ ((page 32 0x100).write 1 0xAA).cells.getD 1 none ≠ none := by decide +kernel

theorem witness_MarkAndRefusedDataBytes :
    let f := wf .mark 0 0x80 0
    let g := wf .mark 0 0x81 0
    let h := wf .refused 0 0x800 0
    ((inF f cfg).nothingDue ∧ (inF f cfg).inFrame f ∧ f.dev = some 0 ∧ f.cls = .mark ∧ f.acked = 0
      ∧ f.refusedData = false ∧ f.start = some (BitVec.ofNat 16 (windowBase cfg.setup.straps)))
      ∧ ((inF (markF 0) cfg).nothingDue ∧ (inF (markF 0) cfg).inFrame (markF 0) ∧ (markF 0).acked ≠ 0)
      ∧ ((inF g cfg).inFrame g ∧ (0x81 : Word) ≠ BitVec.ofNat 16 (windowBase cfg.setup.straps))
      ∧ (inF h cfg).nothingDue ∧ (inF h cfg).inFrame h ∧ h.cls = .refused := by
  simp only [State.nothingDue, State.inFrame] <;> decide +kernel

theorem witness_PostedByteIsCollected :
    let f := wf .posted 1 0x1000 0
    let s := slots collecting .free (inF f cfg)
    let t := slots collecting .free (inF f (devices .ready .faulted cfg))
    (s.nothingDue ∧ s.inFrame f ∧ f.cls = .posted ∧ f.dev = some 1 ∧ s.forward.collectingSlot = some .one
      ∧ s.forward.get .one = .collecting 1 0x1000 (page 64 0x1000) ∧ f.refusedData = false ∧ f.acked = 0
      ∧ s.devState 1 ≠ .faulted)
      ∧ t.nothingDue ∧ t.inFrame f ∧ t.devState 1 = .faulted := by
  simp only [State.nothingDue, State.inFrame] <;> decide +kernel

theorem witness_RelayedByteIsHeld :
    let f := relayF .write 0
    let g := { f with refusedData := true }
    let h := { wf .relay 0 0x0000 0 with dev := some 0 }
    let s := granted .relay (relays (relayTo .write .opn) (inF f cfg))
    let t := granted .setupRead (inF h unc)
    (s.calm ∧ s.inFrame f ∧ f.cls = .relay ∧ f.direction = some .write ∧ f.refusedData = false
      ∧ s.relay = some (relayTo .write .opn) ∧ f.headerBytes = 1)
      ∧ ((inF g cfg).calm ∧ (inF g cfg).inFrame g ∧ g.refusedData = true)
      ∧ t.calm ∧ t.inFrame h ∧ t.relay = none ∧ h.start = some 0x0000 ∧ t.down.grant ≠ none := by
  simp only [State.calm, State.nothingDue, State.settled, State.inFrame] <;> decide +kernel

theorem witness_ControllerAnswersAByte :
    let s := acting .read .held (reads .streaming none (inF readF cfg))
    let f := relayF .read 0
    let g := { f with filling := true }
    (s.nothingDue ∧ s.inFrame readF ∧ readF.cls = .read ∧ s.read.phase = .streaming ∧ s.down.activity = .held
      ∧ s.down.clearing = false)
      ∧ ((reads .filling none s).nothingDue ∧ (reads .filling none s).inFrame readF)
      ∧ ((reads .drained none s).nothingDue ∧ (reads .drained none s).inFrame readF)
      ∧ (∀ st ∈ [RelayStage.readHeld, .drained],
        let t := granted .relay (relays (relayTo .read st) (inF f cfg))
        t.nothingDue ∧ t.inFrame f ∧ f.cls = .relay ∧ f.direction = some .read ∧ f.filling = false
          ∧ t.relay = some (relayTo .read st))
      ∧ (inF g cfg).nothingDue ∧ (inF g cfg).inFrame g ∧ g.filling = true := by
  simp only [State.nothingDue, State.inFrame] <;> decide +kernel

theorem witness_HoldExpiryAtARefuses :
    let s := heldAt .a (reads .requested none (inF readF cfg))
    let p := wf .posted 1 0x1000 0
    let f := relayF .write 0
    let r := relays (relayTo .write .deviceSent) (heldAt .a (inF f cfg))
    let h := relays { homeRelay false .polling with opened := false } (heldAt .a (inF (wf .relay 0 0 0) unc))
    (∀ t ∈ [s, granted .read s, polled .read (pollOf false true) s, acting .read (.header 0x50 0) s],
      t.calm ∧ t.port.frame = some readF ∧ t.port.hold = .a ∧ readF.cls = .read ∧ t.down.ended = false)
      ∧ (s.down.grant ≠ some .read ∧ (granted .read s).down.grant = some .read)
      ∧ ((heldAt .a (inF p (slots waiting performing cfg))).calm ∧ p.cls = .posted)
      ∧ ((granted .engine r).calm ∧ r.relay ≠ none ∧ (granted .engine r).down.grant ≠ some .relay)
      ∧ ((granted .relay r).calm ∧ (granted .relay r).port.frame = some f ∧ (granted .relay r).port.hold = .a
        ∧ f.cls = .relay ∧ (relayTo .write .deviceSent).opened = true ∧ (granted .relay r).down.grant = some .relay
        ∧ (granted .relay r).down.ended = false ∧ (granted .relay r).down.clearing = false
        ∧ (granted .relay r).down.poll = none)
      ∧ (polled .relay (pollOf false true) h).calm ∧ (polled .relay (pollOf false true) h).port.hold = .a
      ∧ (polled .relay (pollOf false true) h).relay.isSome = true ∧ (wf .relay 0 0 0).cls = .relay
      ∧ (polled .relay (pollOf false true) h).down.poll ≠ none := by
  simp only [State.calm, State.nothingDue, State.settled] <;> decide +kernel

theorem witness_HoldExpiryAtBFills :
    let s := acting .read .byte (reads .streaming none (heldAt .b (inF readF cfg)))
    let f := relayF .read 0
    let t := granted .relay (relays (relayTo .read .readByte) (heldAt .b (inF f cfg)))
    (s.calm ∧ s.port.frame = some readF ∧ s.port.hold = .b ∧ readF.cls = .read)
      ∧ t.calm ∧ t.port.frame = some f ∧ t.port.hold = .b ∧ f.cls = .relay ∧ t.relay = some (relayTo .read .readByte)
      ∧ (relayTo .read .readByte).opened = true ∧ t.down.grant = some .relay ∧ t.down.ended = false
      ∧ t.down.clearing = false ∧ t.down.poll = none := by
  simp only [State.calm, State.nothingDue, State.settled] <;> decide +kernel

theorem witness_DiscardClearAndInvalidMarks :
    cfg.calm ∧ (∀ v : Byte, cfg.markArrives v) ∧ (inF (markF 0xF4) cfg).calm ∧ (inF (markF 0xF4) cfg).markArrives 0xF4
      ∧ (inF (markF 0xF3) cfg).markArrives 0xF3 ∧ (inF (markF 0x00) cfg).markArrives 0x00 ∧ 0xF4 ≤ (0xF4 : Byte).toNat :=
  ⟨by simp only [State.calm, State.nothingDue, State.settled] <;> decide +kernel,
    fun _ => markArrives_between ⟨rfl, rfl⟩,
    by simp only [State.calm, State.nothingDue, State.settled] <;> decide +kernel,
    markArrives_atStop (markF 0xF4) (by decide +kernel), markArrives_atStop (markF 0xF3) (by decide +kernel),
    markArrives_atStop (markF 0x00) (by decide +kernel), by decide⟩

/-- The tags at the bounds of their range, and each test of R45 failing in its turn. -/
theorem witness_SealRefusals :
    (∀ tag : Byte, cfg.markArrives tag) ∧ (∀ tag : Byte, unc.markArrives tag)
      ∧ (∀ tag ∈ ([0x01, 0xEF] : List Byte), 1 ≤ tag.toNat ∧ tag.toNat ≤ 0xEF)
      ∧ (unc.calm ∧ unc.setup.config = .unconfigured)
      ∧ (cfg.calm ∧ cfg.setup.config = .configured ∧ cfg.queue.openGroup = some Group.empty ∧ cfg.queue.lost = false
        ∧ Group.empty.entries = [])
      ∧ ({ cfg with queue := { cfg.queue with lost := true } }).calm
      ∧ ({ openGrp [entry] cfg with queue :=
            { (openGrp [entry] cfg).queue with sealed := [grp .journaling, grp .sealed, grp .sealed] } }).calm
      ∧ 3 ≤ [grp .journaling, grp .sealed, grp .sealed].length :=
  ⟨fun _ => markArrives_between ⟨rfl, rfl⟩, fun _ => markArrives_between ⟨rfl, rfl⟩,
    by simp only [State.calm, State.nothingDue, State.settled] <;> decide +kernel⟩

theorem witness_SealMakesASealedGroup :
    let s := openGrp [entry] cfg
    let g : Group := { Group.empty with entries := [entry] }
    (∀ tag : Byte, s.markArrives tag)
      ∧ (s.calm ∧ s.setup.config = .configured ∧ s.queue.openGroup = some g ∧ s.queue.lost = false ∧ g.entries ≠ []
        ∧ s.queue.sealed.length < 3 ∧ s.engine.state = .idle ∧ s.engine.pauseRequested = false ∧ s.queue.sealed = []
        ∧ g.placement = none ∧ s.down.grant = none ∧ s.devState s.ring.dev = .ready)
      ∧ (granted .read s).down.grant ≠ none ∧ (granted .read s).calm ∧ (paused s).calm
      ∧ (paused s).engine.pauseRequested = true :=
  ⟨fun _ => markArrives_between ⟨rfl, rfl⟩, by simp only [State.calm, State.nothingDue, State.settled] <;> decide +kernel⟩

/-- The engine HALTED with VERIFY_FAILED at its verify step. -/
def halted (s : State) : State :=
  { atStep .verify (grp .verifying) s with
    engine :=
      { s.engine with
        state := .halted, remembered := some (.step .verify 0), faultCode := .verifyFailed, faultDevice := some 0 } }

theorem witness_RetryRunsTheHaltedStep :
    let s := granted .read (halted cfg)
    let free := halted cfg
    (s.markArrives 0xF0 ∧ cfg.markArrives 0xF0 ∧ (paused s).markArrives 0xF0 ∧ free.markArrives 0xF0)
      ∧ (s.calm ∧ s.engine.state = .halted ∧ s.engine.remembered = some (.step .verify 0)
        ∧ s.engine.pauseRequested = false ∧ s.down.grant ≠ none)
      ∧ (free.calm ∧ free.engine.state = .halted ∧ free.engine.remembered = some (.step .verify 0)
        ∧ free.engine.pauseRequested = false ∧ free.down.grant = none
        ∧ ((after .retry free).map fun t => (t.down.grant, t.down.activity)) =
          some (some .engine, .read 0x50 0x0800 22))
      ∧ (cfg.calm ∧ cfg.engine.state ≠ .halted)
      ∧ (paused s).calm ∧ (paused s).engine.remembered = some (.step .verify 0)
      ∧ (paused s).engine.pauseRequested = true :=
  ⟨⟨markArrives_between ⟨rfl, rfl⟩, markArrives_between ⟨rfl, rfl⟩, markArrives_between ⟨rfl, rfl⟩,
      markArrives_between ⟨rfl, rfl⟩⟩,
    by simp only [State.calm, State.nothingDue, State.settled] <;> decide +kernel⟩

/-- The engine PAUSED with the step it remembers. -/
def pausedAt (n : NextStep) (s : State) : State :=
  { s with engine := { s.engine with state := .paused, pauseRequested := true, remembered := some n } }

theorem witness_PauseAndResume :
    let s := granted .read (pausedAt (.step .apply 0) (atStep .apply (grp .applying) cfg))
    let t := pausedAt .idle cfg
    let u := paused (atStep .apply (grp .applying) cfg)
    (cfg.markArrives 0xF1 ∧ s.markArrives 0xF2 ∧ t.markArrives 0xF2 ∧ u.markArrives 0xF2)
      ∧ (∀ x ∈ [(NextStep.step .apply 0, GroupState.applying), (.idle, .applying), (.idle, .sealed),
          (.freshPass, .journaling)],
        let v := pausedAt x.1 (atStep .apply (grp x.2) cfg)
        v.markArrives 0xF2 ∧ v.calm ∧ v.engine.state = .paused ∧ v.engine.remembered = some x.1
          ∧ v.queue.sealed = [grp x.2] ∧ v.setup.config = .configured ∧ v.down.grant = none
          ∧ ((after .resume v).map fun t => t.down.grant) = some (some .engine))
      ∧ (cfg.calm ∧ cfg.engine.state ≠ .paused ∧ cfg.engine.pauseRequested = false)
      ∧ (s.calm ∧ s.engine.state = .paused ∧ s.engine.remembered = some (.step .apply 0) ∧ s.down.grant ≠ none)
      ∧ (t.calm ∧ t.engine.state = .paused ∧ t.engine.remembered = some .idle ∧ t.queue.sealed = [])
      ∧ u.calm ∧ u.engine.state ≠ .paused ∧ u.engine.pauseRequested = true :=
  ⟨⟨markArrives_between ⟨rfl, rfl⟩, markArrives_between ⟨rfl, rfl⟩, markArrives_between ⟨rfl, rfl⟩,
      markArrives_between ⟨rfl, rfl⟩⟩,
    fun x h => ⟨markArrives_between ⟨rfl, rfl⟩, by
      simp only [State.calm, State.nothingDue, State.settled]
      revert x
      decide +kernel⟩,
    by simp only [State.calm, State.nothingDue, State.settled] <;> decide +kernel⟩

theorem witness_AcknowledgedPollSendsTheFrame :
    let p := pollOf false true
    let s := slots performing .free cfg
    let r := relays { homeRelay false .polling with opened := false } unc
    (p.followsWrite = false ∧ cfg.indexOf p.addr = some 0 ∧ unc.indexOf p.addr = some 0)
      ∧ (polling (polled (.posted .one) p s) (.posted .one) p
        ∧ s.forward.get .one = .performing 1 [{ start := 0x1000, data := [0xAA] }])
      ∧ polling (polled .engine p (atStep .commit (grp .committing) cfg)) .engine p
      ∧ (polling (polled .read p (reads .opening none cfg)) .read p
        ∧ (polled .read p (reads .opening none cfg)).read.phase = .opening
        ∧ (polled .read p (reads .opening none cfg)).down.ended = false)
      ∧ (polling (polled .relay p r) .relay p ∧ (polled .relay p r).relay.isSome = true
        ∧ (polled .relay p r).down.ended = false)
      ∧ polling (polled .setupRead p cfg) .setupRead p
      ∧ (∀ ph ∈ [Phase.journal, .verify, .commit, .apply, .retire],
        let u := atStep ph (grp .committing) cfg
        u.queue.sealed = grp .committing :: [] ∧ u.engine.state = .phase ph ∧ u.engine.pointer = 0
          ∧ (grp .committing).placement = some { first := 64, count := 1 } ∧ (grp .committing).seq = some 1
          ∧ (grp .committing).tag = some 0x2D ∧ (grp .committing).entries[0]? = some entry)
      ∧ (homeRelay false .byteSent).addr = 0x50 ∧ (homeRelay false .byteSent).home.isSome = true := by
  simp only [polling, State.nothingDue] <;> decide +kernel

theorem witness_AcknowledgedPollEndsTheOperation :
    let p := pollOf true true
    let f := wf .posted 1 0x1000 0
    let s := polled (.posted .one) p (slots performing waiting cfg)
    let t := polled (.posted .one) p (heldAt .a (inF f (slots performing waiting cfg)))
    let u := polled .homePoll (pollOf false true) (loading .polling unc)
    let v := ending (polled .relay p { unc with setup := { unc.setup with attempt := .awaitPoll } })
    (s.down.upFifo = [] ∧ s.down.intReqs = [] ∧ s.indexOf p.addr = some 0)
      ∧ (polling s (.posted .one) p ∧ p.followsWrite = true ∧ s.port.hold = .none)
      ∧ (polling t (.posted .one) p ∧ t.port.hold = .a ∧ t.port.frame = some f ∧ f.cls = .posted ∧ f.dead = false
        ∧ f.dev = some 1 ∧ f.start = some 0x1000 ∧ t.forward.freeSlot = none
        ∧ (t.forward.set .one .free).freeSlot = some .one)
      ∧ (polling u .homePoll (pollOf false true) ∧ u.setup.config = .unconfigured ∧ u.setup.attempt = .none
        ∧ u.down.states = [.ready] ∧ u.indexOf p.addr = some 0)
      ∧ (polling v .relay p ∧ v.down.ended = true ∧ v.setup.config = .unconfigured ∧ v.setup.attempt = .awaitPoll
        ∧ v.down.states = [.ready] ∧ v.indexOf p.addr = some 0 ∧ v.down.upFifo = [] ∧ v.down.intReqs = [])
      ∧ polling (ending (polled .relay p unc)) .relay p ∧ unc.setup.attempt ≠ .awaitPoll
      ∧ polling (ending (polled .read (pollOf false true) cfg)) .read (pollOf false true) := by
  simp only [polling, State.nothingDue]
  refine ⟨?_, ?_, ?_, ?_, ?_, ?_, ?_, ?_⟩ <;> decide +kernel

/-- Each phase whose step a poll ends, the journal pass and the apply at a step that is not the last and at the
last, with a pause requested and without; and the poll after a refused frame, below the third attempt and at it. -/
theorem witness_AcknowledgedPollEndsTheStep :
    let p := pollOf true true
    let q := { p with afterRefusal := true }
    let two : Group := { grp .journaling with placement := some { first := 64, count := 2 }, entries := [entry, entry] }
    let tried (n : Nat) (s : State) : State := { s with engine := { s.engine with attempts := n } }
    (∀ ph ∈ [Phase.journal, .commit, .apply], ∀ g ∈ [grp .journaling, two],
      ∀ s ∈ [polled .engine p (atStep ph g cfg), paused (polled .engine p (atStep ph g cfg))],
        polling s .engine p ∧ p.followsWrite = true ∧ p.afterRefusal = false ∧ s.indexOf p.addr = some 0
          ∧ s.queue.sealed = [g] ∧ s.engine.state = .phase ph ∧ s.engine.pointer = 0)
      ∧ (0 + 1 < (two.placement.map Placement.count).getD 0 ∧ 0 + 1 < two.entries.length)
      ∧ (((grp .journaling).placement.map Placement.count).getD 0 ≤ 0 + 1 ∧ (grp .applying).entries.length ≤ 0 + 1)
      ∧ q.followsWrite = true ∧ q.afterRefusal = true
      ∧ ∀ n ∈ [2, 3],
        ∀ s ∈ [tried n (polled .engine q (atStep .commit (grp .committing) cfg)),
            tried n (polled .engine q (atStep .apply (grp .applying) (loading .replaying cfg)))],
          polling s .engine q ∧ s.indexOf q.addr = some 0 ∧ s.engine.attempts = n
            ∧ (s.engine.state = .phase .commit ∨ s.engine.state = .phase .apply) := by
  simp only [polling, State.nothingDue] <;> decide +kernel

theorem witness_RetirementRemovesTheGroup :
    let p := pollOf true true
    let touching : Group := { grp .retiring with touchesSetup := true }
    ∀ x ∈ [(EntryPhase.none, grp .retiring), (.replaying, grp .retiring), (.replaying, touching)],
      let s := polled .engine p (atStep .retire x.2 (loading x.1 cfg))
      (polling s .engine p ∧ p.followsWrite = true ∧ p.afterRefusal = false ∧ s.indexOf p.addr = some 0)
        ∧ s.queue.sealed = [x.2] ∧ s.store.claims = [] ∧ s.engine.state = .phase .retire ∧ s.setup.phase = x.1
        ∧ s.journal.live = some { first := 64, count := 1 } ∧ x.2.seq = some 1 ∧ x.2.tag = some 0x2D
        ∧ s.down.upFifo = [] ∧ s.down.intReqs = [] ∧ s.engine.pauseRequested = false ∧ s.setup.reload = .none := by
  simp only [polling, State.nothingDue] <;> decide +kernel

/-- The age one below the limit, and the limit itself. -/
theorem witness_RefusedAttemptWaitsOrExpires :
    let s := polled .engine (pollOf true true) (atStep .commit (grp .committing) cfg)
    let t := polled .engine (pollOf true false) (atStep .commit (grp .committing) cfg)
    polling s .engine (pollOf true true) ∧ 19999 < (pollOf true true).limit * 1000
      ∧ (pollOf true true).limit * 1000 ≤ 20000
      ∧ t.nothingDue ∧ t.down.grant = some .engine ∧ t.down.poll = some (pollOf true false) ∧ t.down.clearing = false := by
  simp only [polling, State.nothingDue] <;> decide +kernel

theorem witness_ExpiredPollFailsTheOperation :
    let p := pollOf true true
    let q := pollOf false true
    let s := polled .engine p (atStep .commit (grp .committing) cfg)
    let r := polled .engine p (atStep .apply (grp .applying) (loading .replaying cfg))
    let t := polled (.posted .one) p (slots performing .free cfg)
    let u := polled .read q (reads .opening none (heldAt .a (inF readF cfg)))
    let w := polled .homePoll q (loading .polling unc)
    (s.indexOf p.addr = some 0 ∧ w.indexOf q.addr = some 0 ∧ s.down.upFifo = [] ∧ s.down.intReqs = [])
      ∧ (polling s .engine p ∧ s.engine.state = .phase .commit ∧ s.setup.phase ≠ .replaying)
      ∧ (polling r .engine p ∧ r.engine.state = .phase .apply ∧ r.setup.phase = .replaying ∧ r.indexOf p.addr = some 0)
      ∧ (polling t (.posted .one) p ∧ t.forward.get .one = .performing 1 [{ start := 0x1000, data := [0xAA] }]
        ∧ t.port.hold = .none)
      ∧ (polling u .read q ∧ u.read.phase = .opening ∧ u.down.ended = false ∧ u.port.frame = some readF)
      ∧ polling w .homePoll q := by
  simp only [polling, State.nothingDue] <;> decide +kernel

theorem witness_WriteFrameEndsInItsPoll :
    let s := acting .engine (.write 0x50 0x0800 []) (atStep .journal (grp .journaling) cfg)
    let t := acting (.posted .one) (.write 0x54 0x1000 [0xAA]) (slots performing .free cfg)
    (writing s .engine 0x50 ∧ s.indexOf 0x50 = some 0)
      ∧ writing t (.posted .one) 0x54 ∧ t.indexOf 0x54 = some 1
      ∧ t.forward.get .one = .performing 1 [{ start := 0x1000, data := [0xAA] }] :=
  ⟨⟨writing_acting 0x0800 [] (by decide +kernel), by decide +kernel⟩, writing_acting 0x1000 [0xAA] (by decide +kernel),
    by decide +kernel⟩

/-- A scan at its first header, with a count of refused attempts. -/
def scanAt (stage : ScanStage) (k : Nat) (cs : List Candidate) (s : State) : State :=
  { loading .scanning s with
    journal := { s.journal with scan := some { stage := stage, attempts := k, cands := cs } }
    port := { s.port with gate := .refusing } }

def tried (n : Nat) (s : State) : State :=
  { s with engine := { s.engine with attempts := n }, setup := { s.setup with readAttempts := n } }

/-- After two refusals the third is the last, after one it is not. -/
theorem witness_RefusedReadsAreRepeated :
    (∀ n ∈ [1, 2],
      reading (acting .engine (.read 0x50 0x0800 22) (tried n (atStep .verify (grp .verifying) cfg))) .engine 22
        ∧ reading (acting .setupRead (.read 0x50 0 128) (tried n cfg)) .setupRead 128
        ∧ reading (acting .setupRead (.read 0x50 0 128) (tried n (loading .reloading cfg))) .setupRead 128
        ∧ reading (acting .setupRead (.read 0x50 0 128) (tried n (loading .loading unc))) .setupRead 128
        ∧ reading (acting .scanRead (.read 0x50 0x0800 16) (scanAt (.headers 0) n [] cfg)) .scanRead 16)
      ∧ 1 + 1 < 3 ∧ 3 ≤ 2 + 1
      ∧ ((tried 2 (atStep .verify (grp .verifying) cfg)).engine.state = .phase .verify
        ∧ (tried 2 (atStep .verify (grp .verifying) cfg)).engine.attempts = 2
        ∧ (tried 2 (atStep .verify (grp .verifying) cfg)).setup.phase ≠ .replaying)
      ∧ (∀ n ∈ [0, 1],
        let s := reloadRead n [.engine] (atStep .commit (grp .committing) cfg)
        reading s .setupRead 128 ∧ s.setup.readAttempts = n ∧ s.setup.reload = .reading ∧ .engine ∈ s.down.intReqs)
      ∧ (tried 2 cfg).setup.readAttempts = 2 ∧ cfg.setup.config = .configured ∧ cfg.setup.stale = false
      ∧ cfg.setup.phase ≠ .reloading ∧ (loading .loading unc).setup.config = .unconfigured :=
  ⟨fun _ _ => ⟨reading_acting 0x50 0x0800 ⟨⟨rfl, rfl⟩, rfl, rfl, rfl, rfl⟩,
      reading_acting 0x50 0 ⟨⟨rfl, rfl⟩, rfl, rfl, rfl, rfl⟩, reading_acting 0x50 0 ⟨⟨rfl, rfl⟩, rfl, rfl, rfl, rfl⟩,
      reading_acting 0x50 0 ⟨⟨rfl, rfl⟩, rfl, rfl, rfl, rfl⟩, reading_acting 0x50 0x0800 ⟨⟨rfl, rfl⟩, rfl, rfl, rfl, rfl⟩⟩,
    by decide +kernel, by decide +kernel, by decide +kernel,
    fun _ _ => ⟨reading_acting 0x50 0 ⟨⟨rfl, rfl⟩, rfl, rfl, rfl, rfl⟩, rfl, rfl, List.mem_singleton.mpr rfl⟩,
    by decide +kernel⟩

/-- Bytes that match and bytes that do not, on the second pass and on the third, with and without a pause. -/
theorem witness_VerifyReadDecides :
    let image := recordImage (grp .verifying) 1
    let third : Group := { grp .verifying with passes := 3 }
    (∀ s ∈ [atStep .verify (grp .verifying) cfg, atStep .verify third cfg, paused (atStep .verify (grp .verifying) cfg)],
      reading (acting .engine (.read 0x50 0x0800 22) s) .engine image.length ∧ s.engine.state = .phase .verify
        ∧ s.setup.phase ≠ .replaying)
      ∧ (21 ≤ image.length ∧ image.length ≤ 1232) ∧ List.replicate 22 0 ≠ image ∧ (List.replicate 22 (0 : Byte)).length = 22
      ∧ (grp .verifying).placement = some { first := 64, count := 1 } ∧ (grp .verifying).passes < 3 ∧ 3 ≤ third.passes
      ∧ (paused (atStep .verify (grp .verifying) cfg)).engine.pauseRequested = true := by
  refine ⟨fun s h => ⟨reading_acting 0x50 0x0800 ?_, ?_⟩, by decide +kernel⟩ <;>
    (revert s; decide +kernel)

def withSetup (f : Setup → Setup) (s : State) : State := { s with setup := f s.setup }

def readingSetup (s : State) : State := acting .setupRead (.read 0x50 0 128) s

set_option maxRecDepth 100000 in
theorem witness_SetupReadEndsTheLoad :
    let attempt := withSetup (fun st => { st with attempt := .granted }) unc
    let idle := inF fr attempt
    let held := heldAt .a (reads .requested none (inF readF attempt))
    let caught : State := { held with down := { held.down with upFifo := [.read] } }
    (∀ s ∈ [loading .loading unc, attempt, idle, caught,
        withSetup (fun st => { st with attempt := .granted, kept := true }) unc,
        withSetup (fun st => { st with reload := .reading }) cfg,
        withSetup (fun st => { st with reload := .reading, stale := true }) cfg],
      reading (readingSetup s) .setupRead 128)
      ∧ record.length = 128 ∧ (List.replicate 128 (0 : Byte)).length = 128
      ∧ validate unc.setup.straps record = .none ∧ validate unc.setup.straps (List.replicate 128 0) ≠ .none
      ∧ (∀ s ∈ [attempt, idle, caught],
        (readingSetup s).setup.phase ≠ .loading ∧ (readingSetup s).setup.config = .unconfigured
          ∧ (readingSetup s).setup.kept = false)
      ∧ ((readingSetup attempt).port.frame = none ∧ (readingSetup idle).port.frame = some fr
        ∧ (readingSetup idle).port.hold = .none)
      ∧ ((readingSetup caught).port.frame = some readF ∧ (readingSetup caught).port.hold = .a
        ∧ (readingSetup caught).read.phase = .requested ∧ (readingSetup caught).down.upFifo = [.read])
      ∧ cfg.setup.config = .configured ∧ cfg.setup.stale = false := by
  refine ⟨fun s h => reading_acting 0x50 0 ?_, by decide +kernel⟩
  revert s; decide +kernel

/-- The header of a record of one page and a candidate for it. -/
def headerOf (g : Group) : List Byte := (recordImage g 1).take 16

def candidate (v : Verdict) (g : Group) (committed : Bool) : Candidate :=
  { offset := 3, header := (headerOf g).take 12 ++ (if committed then wordBytes (~~~ 1) else wordBytes 1) ++ wordBytes 0
    verdict := v }

theorem witness_ScanReadsAreJudged :
    let g := grp .applying
    let unread := candidate .unread g true
    let passed := candidate (.passed [entry]) g true
    let foreign := candidate (.passed [{ entry with dev := 5 }]) g true
    (∀ o ∈ [0, 39],
      reading (acting .scanRead (.read 0x50 0x0800 16) (scanAt (.headers o) 0 [] cfg)) .scanRead 16
        ∧ (headerOf g).length = 16)
      ∧ (reading (acting .scanRead (.read 0x50 0x0860 22) (scanAt (.record 3) 0 [unread] cfg)) .scanRead 22
        ∧ 16 ≤ (List.replicate 22 (0 : Byte)).length)
      ∧ (0 + 1 < cfg.ring.pageCount ∧ cfg.ring.pageCount ≤ 39 + 1)
      ∧ nextRecordRead [unread] = some unread ∧ nextRecordRead [] = none ∧ replayCandidates [] = []
      ∧ (nextRecordRead [passed] = none ∧ replayCandidates [passed] = [passed] ∧ passed.verdict = .passed [entry]
        ∧ [entry].all (itemApplicable cfg.setup.tables) = true ∧ ([entry].map fun e => e.data.length).sum ≤ 1024
        ∧ [entry].length ≤ 48)
      ∧ (foreign ∈ replayCandidates [foreign] ∧ itemApplicable cfg.setup.tables { entry with dev := 5 } = false)
      ∧ cfg.queue.openGroup = some Group.empty ∧ cfg.queue.sealed = [] ∧ cfg.store.image = none
      ∧ cfg.setup.config = .configured ∧ cfg.engine.state = .idle ∧ cfg.engine.pauseRequested = false :=
  ⟨fun _ _ => ⟨reading_acting 0x50 0x0800 ⟨⟨rfl, rfl⟩, rfl, rfl, rfl, rfl⟩, by decide +kernel⟩,
    ⟨reading_acting 0x50 0x0860 ⟨⟨rfl, rfl⟩, rfl, rfl, rfl, rfl⟩, by decide +kernel⟩, by decide +kernel⟩

theorem witness_ReloadIsReadAndSwapped :
    let s := withSetup (fun st => { st with reload := .waitRead }) cfg
    let t := withSetup (fun st => { st with reload := .waitSwap, holding := some record }) cfg
    let r := withSetup (fun st => { st with reload := .waitRead, readAttempts := 2, repeatDue := true }) cfg
    (s.setup.reload = .waitRead ∧ s.queue.sealed = [] ∧ s.engine.state = .idle)
      ∧ (r.setup.reload = .waitRead ∧ r.queue.sealed = [] ∧ r.engine.state = .idle)
      ∧ t.setup.reload = .waitSwap ∧ t.setup.holding.isSome = true ∧ t.openEntries = [] ∧ t.queue.sealed = []
      ∧ t.port.frame = none ∧ t.down.ended = false ∧ t.forward = { one := .free, two := .free } := by decide +kernel

theorem witness_ReadHeaderOpensTheStream :
    let s := acting .read (.header 0x50 0) (reads .opening none (heldAt .a (inF readF cfg)))
    let u := acting .read (.header 0x50 0) (reads .streaming none (heldAt .b (inF readF cfg)))
    let t (ph : ReadPhase) := acting .read (.header 0x50 0) (reads ph none (inF readF cfg))
    (served s .read readF ∧ s.read.phase = .opening ∧ s.port.hold = .a ∧ s.down.activity = .header 0x50 0)
      ∧ (served u .read readF ∧ u.read.phase = .streaming ∧ u.down.activity = .header 0x50 0)
      ∧ (∀ ph ∈ [ReadPhase.dead, .filling],
        onSegment (t ph) .read (.header 0x50 0) ∧ (t ph).read.phase = ph ∧ (t ph).down.ended = false)
      ∧ onSegment (ending (t .none)) .read (.header 0x50 0) ∧ (ending (t .none)).down.ended = true := by
  simp only [served, onSegment, State.nothingDue] <;> decide +kernel

/-- The addresses at the bounds of the control window and of the status record, and one with a staged byte. -/
theorem witness_ByteSentInARead :
    let snap := List.replicate 32 (0x77 : Byte)
    let at_ (a : Word) (s : State) : State := { s with port := { s.port with pointers := { s.port.pointers with p0 := a } } }
    let s (o : Option (List Byte)) := acting .read .byte (reads .streaming o (heldAt .b (inF readF cfg)))
    let addr (a : Word) := ((at_ a (s none)).port.pointers.get 0).toNat % (s none).setup.tables.capacity 0
    (served (s none) .read readF ∧ served (s (some snap)) .read readF ∧ (s none).read.phase = .streaming
      ∧ (s none).port.hold = .b ∧ (s none).down.activity = .byte ∧ (s none).read.dev = 0 ∧ snap.length = 32)
      ∧ (windowBase cfg.setup.straps ≤ addr 0x80 ∧ addr 0x9F < windowBase cfg.setup.straps + 32
        ∧ windowBase cfg.setup.straps + 32 ≤ addr 0xA0 ∧ addr 0xFF < windowBase cfg.setup.straps + 128
        ∧ windowBase cfg.setup.straps + 128 ≤ addr 0x100 ∧ addr 0x7F < windowBase cfg.setup.straps)
      ∧ ((openGrp [entry] (s none)).stagedByte 0 (addr 0x101) = some 0x11
        ∧ (openGrp [entry] (s none)).stagedByte 0 (addr 0x102) = none ∧ (s none).setup.config = .configured)
      ∧ (∀ ph ∈ [ReadPhase.filling, .dead],
        onSegment (reads ph none (s none)) .read .byte ∧ (reads ph none (s none)).down.ended = false)
      ∧ onSegment (ending (s none)) .read .byte ∧ (ending (s none)).down.ended = true := by
  simp only [served, onSegment, State.nothingDue] <;> decide +kernel

/-- Every stage in which an answer or a byte of the memory is awaited, and a winding up of each kind. -/
theorem witness_RelayPassesAnswersAndBytes :
    let f := relayF .write 0
    (∀ r ∈ [relayTo .write .deviceSent, relayTo .read .deviceSent, relayTo .write .byteSent, homeRelay false .byteSent],
      let s := granted .relay (relays r (heldAt .a (inF f unc)))
      served s .relay f ∧ s.port.hold = .a ∧ s.relay = some r)
      ∧ (let s := granted .relay (relays (relayTo .read .readByte) (heldAt .b (inF (relayF .read 0) cfg)))
        served s .relay (relayF .read 0) ∧ s.port.hold = .b ∧ s.relay = some (relayTo .read .readByte))
      ∧ ∀ how ∈ [Closing.stop, .restartStop, .nakStop], ∀ home ∈ [true, false], ∀ d ∈ [Direction.write, .read],
        let s := ending (acting .relay (.windUp d how home) unc)
        onSegment s .relay (.windUp d how home) ∧ s.down.ended = true := by
  simp only [served, onSegment, State.nothingDue] <;> decide +kernel

/-- The counter at 7 and at 8, with both queues holding a request, one of them, or none. -/
theorem witness_ArbiterChoice :
    let q (us is : List Requester) (n : Nat) : State :=
      { cfg with down := { cfg.down with upFifo := us, intReqs := is, fairness := n } }
    (q [] [] 0).down.upFifo = [] ∧ (q [.read] [] 0).down.upFifo = [.read] ∧ (q [] [.engine] 0).down.intReqs = [.engine]
      ∧ 8 ≤ (q [.read] [.engine] 8).down.fairness ∧ (q [.read] [.engine] 7).down.fairness < 8 := by decide +kernel

theorem witness_FaultedDeviceFailsAtTheGrant :
    let s := devices .faulted .faulted (atStep .commit (grp .committing) cfg)
    let t := devices .ready .faulted (slots waiting .free cfg)
    let r := devices .faulted .ready (atStep .apply (grp .applying) (loading .replaying cfg))
    let l := loading .reloading s
    (s.devState s.stepDevice = .faulted ∧ s.engine.state = .phase .commit ∧ s.setup.phase ≠ .replaying)
      ∧ (r.devState r.stepDevice = .faulted ∧ r.engine.state = .phase .apply ∧ r.setup.phase = .replaying)
      ∧ (l.devState 0 = .faulted ∧ l.setup.config = .configured ∧ l.setup.stale = false ∧ l.setup.attempt = .none
        ∧ l.setup.phase = .reloading)
      ∧ (t.forward.get .one = .waiting 1 [{ start := 0x1000, data := [0xAA] }] ∧ t.devState 1 = .faulted
        ∧ t.port.hold = .none)
      ∧ (s.devState 0 = .faulted ∧ s.setup.config = .configured ∧ s.setup.stale = false ∧ s.setup.attempt = .none
        ∧ s.setup.phase ≠ .reloading)
      ∧ s.devState s.ring.dev = .faulted := by decide +kernel

def clearing (n : Nat) (s : State) : State := { s with down := { s.down with clearing := true, clears := n } }

/-- A detection in a frame, in a header and a byte, in a winding up and in closing conditions; then a clear under way
for each operation. -/
theorem witness_StuckBusIsCleared :
    let w := acting .engine (.write 0x50 0x0800 []) (atStep .journal (grp .journaling) cfg)
    let s : State := { w with down := { w.down with detections := 2 } }
    let p := polled .engine (pollOf true false) (atStep .commit (grp .committing) cfg)
    let t := granted (.posted .one) (slots performing .free cfg)
    let a := granted .relay (relays (relayTo .write .byteSent) (heldAt .a (inF (relayF .write 0) cfg)))
    let b := granted .relay (relays (relayTo .read .readByte) (heldAt .b (inF (relayF .read 0) cfg)))
    let o := granted .relay (relays (relayTo .write .restarted) (inF fr cfg))
    let e := ending (acting .relay (.closing .restartStop true)
      { unc with setup := { unc.setup with attempt := .awaitPoll } })
    (∀ u ∈ [s, acting .read (.header 0x50 0) cfg, acting .read .byte cfg,
        ending (acting .relay (.windUp .write .restartStop false) cfg),
        ending (acting .relay (.closing .stop false) cfg)],
      u.reloadDue = false ∧ u.swapDue = false ∧ u.down.grant.isSome = true ∧ u.down.clearing = false
        ∧ u.drivesBus = true ∧ u.down.detections < 3)
      ∧ ((clearing 1 s).nothingDue ∧ (clearing 1 s).down.clears + 1 < 3 ∧ (clearing 1 s).down.poll = none
        ∧ (clearing 1 s).down.ended = false)
      ∧ ((clearing 0 p).nothingDue ∧ (clearing 0 p).down.poll = some (pollOf true false))
      ∧ ((clearing 0 t).nothingDue ∧ (clearing 0 t).forward.get .one = .performing 1 [{ start := 0x1000, data := [0xAA] }])
      ∧ (∀ ph ∈ [ReadPhase.opening, .streaming, .drained, .filling, .dead],
        let u := clearing 0 (granted .read (reads ph none cfg))
        u.nothingDue ∧ u.read.phase = ph ∧ u.down.poll = none ∧ u.down.ended = false)
      ∧ (∀ x ∈ [(a, HoldPoint.a, relayF .write 0), (b, .b, relayF .read 0), (o, .none, fr)],
        (clearing 0 x.1).nothingDue ∧ (clearing 0 x.1).down.poll = none ∧ (clearing 0 x.1).down.ended = false
          ∧ (clearing 0 x.1).down.upFifo = [] ∧ (clearing 0 x.1).down.intReqs = [] ∧ x.1.port.frame = some x.2.2
          ∧ x.1.port.hold = x.2.1)
      ∧ ((relayF .write 0).cls = .relay ∧ (relayF .read 0).cls = .relay ∧ fr.cls ≠ .relay)
      ∧ ((clearing 0 (ending (acting .relay (.closing .stop false) cfg))).nothingDue ∧ cfg.setup.attempt ≠ .awaitPoll)
      ∧ (clearing 0 e).nothingDue ∧ (clearing 0 e).setup.attempt = .awaitPoll ∧ (clearing 0 e).down.ended = true
      ∧ (clearing 0 e).setup.config = .unconfigured ∧ (clearing 0 e).down.states = [.ready] := by
  simp only [State.nothingDue] <;> decide +kernel

/-- The fourth detection, in a frame and in a relay's winding up, and the third failed attempt of a bus clear, for each
requester. -/
theorem witness_BusStuckIsReported :
    let w := acting .engine (.write 0x50 0x0800 []) (atStep .journal (grp .journaling) cfg)
    let w' := acting .engine (.write 0x50 0x0010 []) (atStep .apply (grp .applying) (loading .replaying cfg))
    let fourth (s : State) : State := { s with down := { s.down with detections := 3 } }
    let c := Instr.busClearAttemptEnd false
    let r := granted .relay (relays (relayTo .write .byteSent) (heldAt .a (inF (relayF .write 0) cfg)))
    let q := granted .relay (relays (relayTo .read .readByte) (heldAt .b (inF (relayF .read 0) cfg)))
    (∀ s ∈ [fourth w, fourth (ending (acting .relay (.closing .stop false) cfg))],
      s.reloadDue = false ∧ s.swapDue = false ∧ s.down.grant.isSome = true ∧ s.down.upFifo = [] ∧ s.down.intReqs = []
        ∧ s.down.clearing = false ∧ s.drivesBus = true ∧ 3 ≤ s.down.detections ∧ s.setup.attempt ≠ .awaitPoll)
      ∧ ((fourth w).engine.state = .phase .journal ∧ (fourth w).setup.phase ≠ .replaying)
      ∧ (w'.engine.state = .phase .apply ∧ w'.setup.phase = .replaying)
      ∧ (r.port.frame = some (relayF .write 0) ∧ r.port.hold = .a ∧ r.relay = some (relayTo .write .byteSent))
      ∧ (q.port.frame = some (relayF .read 0) ∧ q.port.hold = .b ∧ q.relay = some (relayTo .read .readByte))
      ∧ ((withSetup (fun st => { st with reload := .reading }) cfg).setup.config = .configured
        ∧ (loading .loading unc).setup.phase = .loading ∧ unc.setup.config = .unconfigured ∧ unc.setup.kept = false)
      ∧ (∀ t ∈ [granted (.posted .one) (slots performing .free cfg), granted .scanRead (scanAt (.headers 0) 0 [] cfg),
          granted .homePoll (loading .polling unc), granted .read (reads .opening none (heldAt .a (inF readF cfg))), r, q,
          acting .read .byte (reads .streaming none (heldAt .b (inF readF cfg))),
          readingSetup (withSetup (fun st => { st with reload := .reading }) cfg), readingSetup (loading .loading unc), w',
          readingSetup (withSetup (fun st => { st with reload := .reading }) (loading .reloading cfg)),
          readingSetup (withSetup (fun st => { st with attempt := .granted }) unc)],
        (clearing 2 t).nothingDue ∧ (clearing 2 t).down.grant.isSome = true ∧ (clearing 2 t).down.upFifo = []
          ∧ (clearing 2 t).down.intReqs = [] ∧ c = .busClearAttemptEnd false ∧ (clearing 2 t).down.clearing = true
          ∧ (clearing 2 t).down.clears + 1 = 3 ∧ (clearing 2 t).down.ended = false) := by
  simp only [State.nothingDue] <;> decide +kernel

/-- Two configured indices and two that are not, indices absent and present, a sealed group and empty places. -/
theorem witness_StatusRecordShowsTheState :
    let s := atStep .apply (grp .applying) cfg
    let t : State :=
      { s with
        window := { s.window with ffDevice := some 1 }, engine := { s.engine with faultDevice := some 0 } }
    cfg.setup.config = .configured ∧ unc.setup.config = .unconfigured ∧ 1 < cfg.setup.tables.devices.length
      ∧ cfg.setup.tables.devices.length ≤ 2 ∧ cfg.window.ffDevice = none ∧ cfg.engine.faultDevice = none
      ∧ t.window.ffDevice = some 1 ∧ t.engine.faultDevice = some 0 ∧ unc.queue.openGroup = none
      ∧ cfg.queue.openGroup = some Group.empty ∧ s.queue.sealed = [grp .applying] ∧ (grp .applying).tag = some 0x2D
      ∧ cfg.queue.sealed = [] ∧ byteAt s.statusRecord 20 = 0x2D ∧ byteAt s.statusRecord 21 = 0x00
      ∧ byteAt t.statusRecord 28 = 0x01 ∧ byteAt t.statusRecord 31 = 0x00 := by decide +kernel

set_option maxRecDepth 100000 in
/-- A record that passes the checks before the limits, and one that the limit check alone rejects. -/
theorem witness_RecordChecks :
    ∀ bs ∈ [record, withCrc (bodyOf 0 5)],
      byteAt bs 0 = 0xC7 ∧ byteAt bs 1 = 0x1E ∧ crc16 (bs.take 126) = wordAt bs 126 ∧ byteAt bs 2 = 0x01
        ∧ devicesOk { ha := 0, sb := false } bs = true ∧ regionsOk bs = true ∧ ringOk bs = true := by decide +kernel

/-- A record whose ring has this many pages, first page 64, of the home device with this page size code. -/
def ringOf (pages code : Byte) : List Byte :=
  withCrc ([0xC7, 0x1E, 1, 5, 1, 0, 25, 20, 50, 1, 0, 0, 64, 0, pages, 0, 0x50, 3, code] ++ List.replicate 107 0)

set_option maxRecDepth 100000 in
/-- The rings of R12 at and one below the least page count, for each page size. -/
theorem witness_RingChecks :
    ∀ x ∈ ([(154, 0, 8), (153, 0, 8), (77, 1, 16), (76, 1, 16), (39, 2, 32), (38, 2, 32), (20, 3, 64), (19, 3, 64),
        (10, 4, 128), (9, 4, 128)] : List (Byte × Byte × Nat)),
      let bs := ringOf x.1 x.2.1
      byteAt bs 0 = 0xC7 ∧ byteAt bs 1 = 0x1E ∧ crc16 (bs.take 126) = wordAt bs 126 ∧ byteAt bs 2 = 0x01
        ∧ devicesOk { ha := 0, sb := false } bs = true ∧ regionsOk bs = true ∧ (tablesOf bs).pageSize 0 = x.2.2
        ∧ (byteAt bs 10).toNat < (byteAt bs 4).toNat
        ∧ ((wordAt bs 11).toNat + (wordAt bs 13).toNat) * (tablesOf bs).pageSize 0 ≤ (tablesOf bs).capacity 0 := by
  decide +kernel

theorem witness_StepKeepsArbiterSettled :
    cfg.settled ∧ cfg.fairnessLaw ∧ step { cfg with pending := [.start] } = .next (inF fr cfg) := by
  refine ⟨?_, ?_, rfl⟩ <;> simp only [State.settled, State.fairnessLaw] <;> decide +kernel

theorem witness_StepKeepsTheStoreLaw :
    (openGrp [entry] cfg).storeLaw ∧ (openGrp [entry] cfg).heldBytes = 2
      ∧ step { cfg with pending := [.start] } = .next (inF fr cfg) :=
  ⟨⟨by decide +kernel, by decide +kernel, by decide +kernel, fun _ h => nomatch h⟩, by decide +kernel, rfl⟩

set_option maxRecDepth 100000 in
theorem witness_StepKeepsTheTablesLawful :
    cfg.tablesLaw ∧ unc.tablesLaw ∧ step { cfg with pending := [.start] } = .next (inF fr cfg) := by
  refine ⟨⟨fun h => (nomatch h), fun _ => ⟨⟨record, ⟨by decide +kernel, by decide +kernel⟩, by decide +kernel⟩, rfl⟩, ?_⟩,
    ⟨fun _ => ⟨rfl, rfl⟩, fun h => (nomatch h), ?_⟩, rfl⟩
  · exact fun _ h => nomatch h
  · exact fun _ h => nomatch h

theorem witness_StepKeepsThePortLaws :
    let s := heldAt .a (inF readF cfg)
    let d := dueAt .b (inF readF cfg)
    cfg.timerLaw ∧ cfg.relayLaw ∧ s.timerLaw ∧ s.relayLaw ∧ d.timerLaw ∧ d.relayLaw ∧ step d = .next d.elapse
      ∧ step { cfg with pending := [.start] } = .next (inF fr cfg) := by
  refine ⟨?_, fun h => absurd rfl h, ?_, fun h => absurd rfl h, ?_, fun h => absurd rfl h, rfl, rfl⟩ <;>
    simp only [State.timerLaw] <;> decide +kernel

end Sys2Proof.Tests
end

section
/-! PROOF. The validation of the setup record (R9 to R13): what each check asks of the bytes, which check gives the
reason once the checks before it pass, and from these the statements O52, O53 and O54. -/

namespace Sys2Proof.Machine

/-! ## The check that gives the reason (R9) -/

/-- A check that no later check's reason can be mistaken for gives its reason exactly when it fails. -/
theorem ite_reason_eq_iff {ok : Bool} {reason later : Reject} (h : later ≠ reason) :
    (if ok = false then reason else later) = reason ↔ ok = false := by
  cases ok with
  | false => exact ⟨fun _ => rfl, fun _ => rfl⟩
  | true => exact ⟨fun hlater => absurd hlater h, nofun⟩

/-- A check of another reason passes on what the checks after it do not give. -/
theorem ite_reason_ne (ok : Bool) {first later reason : Reject} (hfirst : first ≠ reason) (hlater : later ≠ reason) :
    (if ok = false then first else later) ≠ reason := by
  cases ok with
  | false => exact hfirst
  | true => exact hlater

section FirstFailingCheck

variable {bs : List Byte} (h0 : byteAt bs 0 = 0xC7) (h1 : byteAt bs 1 = 0x1E)
  (hcrc : crc16 (bs.take 126) = wordAt bs 126) (hver : byteAt bs 2 = 0x01)
include h0 h1 hcrc hver

/-- With a good magic, CRC and version the checks of the tables decide. -/
theorem validate_of_head_good (st : Straps) :
    validate st bs =
      if devicesOk st bs = false then .badDevice
      else if regionsOk bs = false then .badRegion
      else if ringOk bs = false then .badRing
      else if limitsOk bs = false then .badLimit
      else if overlapOk st bs = false then .overlap
      else .none := by
  rw [validate, if_neg (not_not_intro ⟨h0, h1⟩), if_neg (not_not_intro hcrc), if_neg (not_not_intro hver)]

theorem validate_eq_badDevice_iff (st : Straps) : validate st bs = .badDevice ↔ devicesOk st bs = false := by
  rw [validate_of_head_good h0 h1 hcrc hver]
  exact ite_reason_eq_iff <| ite_reason_ne _ nofun <| ite_reason_ne _ nofun <| ite_reason_ne _ nofun <|
    ite_reason_ne _ nofun nofun

theorem validate_eq_badRing_iff {st : Straps} (hdev : devicesOk st bs = true) (hreg : regionsOk bs = true) :
    validate st bs = .badRing ↔ ringOk bs = false := by
  simp only [validate_of_head_good h0 h1 hcrc hver, hdev, hreg, Bool.true_eq_false, if_false]
  exact ite_reason_eq_iff (ite_reason_ne _ nofun (ite_reason_ne _ nofun nofun))

theorem validate_eq_badLimit_iff {st : Straps} (hdev : devicesOk st bs = true) (hreg : regionsOk bs = true)
    (hring : ringOk bs = true) : validate st bs = .badLimit ↔ limitsOk bs = false := by
  simp only [validate_of_head_good h0 h1 hcrc hver, hdev, hreg, hring, Bool.true_eq_false, if_false]
  exact ite_reason_eq_iff (ite_reason_ne _ nofun nofun)

end FirstFailingCheck

/-! ## The limit checks (R13) -/

theorem limitsOk_iff (bs : List Byte) :
    limitsOk bs = true ↔
      (1 ≤ (byteAt bs 6).toNat ∧ (byteAt bs 6).toNat ≤ 250) ∧ (1 ≤ (byteAt bs 7).toNat ∧ (byteAt bs 7).toNat ≤ 100)
        ∧ (10 ≤ (byteAt bs 8).toNat ∧ (byteAt bs 8).toNat ≤ 250) ∧ (byteAt bs 9).toNat ≤ 1 := by
  simp only [limitsOk, Bool.and_eq_true, decide_eq_true_eq, and_assoc]

/-- Settles O52: the limit check gives the reason, and its four conditions are those of R13. -/
theorem limitChecksRejectTheRecord : Obligations.LimitChecksRejectTheRecord := by
  intro st bs h0 h1 hcrc hver hdev hreg hring hold poll idle speed
  rw [validate_eq_badLimit_iff h0 h1 hcrc hver hdev hreg hring, ← Bool.not_eq_true, limitsOk_iff]
  omega

/-! ## The device checks (R10) -/

theorem allPairs_iff_pairwise {α : Type} (ok : α → α → Bool) (l : List α) :
    allPairs ok l = true ↔ l.Pairwise fun x y => ok x y = true := by
  induction l with
  | nil => exact ⟨fun _ => .nil, fun _ => rfl⟩
  | cons x xs ih => simp only [allPairs, Bool.and_eq_true, List.all_eq_true, ih, List.pairwise_cons]

theorem allPairs_range_iff (ok : Nat → Nat → Bool) (n : Nat) :
    allPairs ok (List.range n) = true ↔ ∀ i j, i < j → j < n → ok i j = true := by
  rw [allPairs_iff_pairwise, List.pairwise_iff_getElem]
  simp only [List.length_range, List.getElem_range]
  exact ⟨fun h i j hij hj => h i j (Nat.lt_trans hij hj) hj hij, fun h i j _ hj hij => h i j hij hj⟩

/-- An address byte names the 7-bit address of the same value. -/
theorem byte_eq_setWidth_iff (b : Byte) (a : DevAddr) : b = a.setWidth 8 ↔ b.toNat = a.toNat := by
  have ha : a.toNat < 128 := a.isLt
  rw [← BitVec.toNat_inj, BitVec.toNat_setWidth, Nat.mod_eq_of_lt (by omega)]

theorem descDeviceOk_iff (bs : List Byte) (i : Nat) :
    descDeviceOk bs i = true ↔
      0x08 ≤ (byteAt bs (16 + 3 * i)).toNat ∧ (byteAt bs (16 + 3 * i)).toNat ≤ 0x77
        ∧ (byteAt bs (17 + 3 * i)).toNat ≤ 4 ∧ (byteAt bs (18 + 3 * i)).toNat ≤ 4 :=
  decide_eq_true_iff

theorem devicesOk_iff (st : Straps) (bs : List Byte) :
    devicesOk st bs = true ↔
      (1 ≤ (byteAt bs 4).toNat ∧ (byteAt bs 4).toNat ≤ 4)
        ∧ (byteAt bs 16).toNat = (homeAddr st).toNat
        ∧ (∀ i, i < (byteAt bs 4).toNat → descDeviceOk bs i = true)
        ∧ ∀ i j, i < j → j < (byteAt bs 4).toNat →
            (byteAt bs (16 + 3 * i)).toNat ≠ (byteAt bs (16 + 3 * j)).toNat := by
  simp only [devicesOk, Bool.and_eq_true, decide_eq_true_eq, List.all_eq_true, List.mem_range, allPairs_range_iff,
    byte_eq_setWidth_iff, and_assoc, ne_eq, BitVec.toNat_inj]

theorem devicesOk_eq_false_iff (st : Straps) (bs : List Byte) :
    devicesOk st bs = false ↔
      (byteAt bs 4).toNat = 0 ∨ 4 < (byteAt bs 4).toNat ∨ (byteAt bs 16).toNat ≠ (homeAddr st).toNat
        ∨ (∃ i, i < (byteAt bs 4).toNat ∧
            ((byteAt bs (16 + 3 * i)).toNat < 0x08 ∨ 0x77 < (byteAt bs (16 + 3 * i)).toNat
              ∨ 4 < (byteAt bs (17 + 3 * i)).toNat ∨ 4 < (byteAt bs (18 + 3 * i)).toNat))
        ∨ ∃ i j, i < j ∧ j < (byteAt bs 4).toNat
            ∧ (byteAt bs (16 + 3 * i)).toNat = (byteAt bs (16 + 3 * j)).toNat := by
  rw [← Bool.not_eq_true, devicesOk_iff]
  simp only [descDeviceOk_iff, Classical.not_and_iff_not_or_not, Classical.not_forall, Nat.not_le,
    Classical.not_not, exists_prop, ne_eq, Nat.lt_one_iff, or_assoc]

/-- Settles O53: the device check gives the reason, its conditions are those of R10, and it ties descriptor 0 to one
home address only. -/
theorem deviceChecksRejectTheRecord : Obligations.DeviceChecksRejectTheRecord := by
  intro st bs h0 h1 hcrc hver n addr capacity page
  have reason := validate_eq_badDevice_iff h0 h1 hcrc hver
  refine ⟨(reason st).trans (devicesOk_eq_false_iff st bs), fun st' hpass hhome => ?_⟩
  rw [ne_eq, reason, Bool.not_eq_false, devicesOk_iff] at hpass
  obtain ⟨_, haddr, _⟩ := hpass
  have hother : (byteAt bs 16).toNat ≠ (homeAddr st').toNat := fun h =>
    hhome (BitVec.eq_of_toNat_eq (h.symm.trans haddr))
  exact (reason st').2 ((devicesOk_eq_false_iff st' bs).2 (.inr (.inr (.inl hother))))

/-! ## The ring checks (R12) -/

@[simp] theorem tablesOf_devices_length (bs : List Byte) : (tablesOf bs).devices.length = (byteAt bs 4).toNat := by
  simp only [tablesOf, List.length_map, List.length_range]

theorem ringOk_iff (bs : List Byte) :
    ringOk bs = true ↔
      (byteAt bs 10).toNat < (byteAt bs 4).toNat
        ∧ ((wordAt bs 11).toNat + (wordAt bs 13).toNat) * (tablesOf bs).pageSize (byteAt bs 10).toNat
            ≤ (tablesOf bs).capacity (byteAt bs 10).toNat
        ∧ Config.ringMin ≤ (wordAt bs 13).toNat * (tablesOf bs).pageSize (byteAt bs 10).toNat := by
  have hring : (tablesOf bs).ring = some
      { dev := (byteAt bs 10).toNat, firstPage := (wordAt bs 11).toNat, pageCount := (wordAt bs 13).toNat } := rfl
  simp only [ringOk, hring, Option.all_some, PageRange.fits, PageRange.high, tablesOf_devices_length,
    Bool.and_eq_true, decide_eq_true_eq, and_assoc]

theorem ringOk_eq_false_iff (bs : List Byte) :
    ringOk bs = false ↔
      (byteAt bs 4).toNat ≤ (byteAt bs 10).toNat
        ∨ (tablesOf bs).capacity (byteAt bs 10).toNat
            < ((wordAt bs 11).toNat + (wordAt bs 13).toNat) * (tablesOf bs).pageSize (byteAt bs 10).toNat
        ∨ (wordAt bs 13).toNat * (tablesOf bs).pageSize (byteAt bs 10).toNat < Config.ringMin := by
  rw [← Bool.not_eq_true, ringOk_iff]
  simp only [Classical.not_and_iff_not_or_not, Nat.not_lt, Nat.not_le]

/-- A ring within its device is judged by its size alone. -/
theorem ringOk_iff_of_fits {bs : List Byte} (hdev : (byteAt bs 10).toNat < (byteAt bs 4).toNat)
    (hfits : ((wordAt bs 11).toNat + (wordAt bs 13).toNat) * (tablesOf bs).pageSize (byteAt bs 10).toNat
      ≤ (tablesOf bs).capacity (byteAt bs 10).toNat) :
    ringOk bs = true ↔ Config.ringMin ≤ (wordAt bs 13).toNat * (tablesOf bs).pageSize (byteAt bs 10).toNat := by
  simp only [ringOk_iff, hdev, hfits, true_and]

/-- 16 bytes of header, 4 for each of 48 descriptors, and the 1024 bytes of the pool (R22, R72). -/
theorem recordSize_le_ringMin (es : List Entry) (hcount : es.length ≤ Config.descriptorCount)
    (hbytes : entriesBytes es ≤ Config.poolSize) : recordSize es ≤ Config.ringMin := by
  simp only [Config.descriptorCount, Config.poolSize] at hcount hbytes
  simp only [recordSize, Config.headerSize, Config.ringMin]
  omega

/-- A group that takes every descriptor and the whole pool: 47 entries of 21 bytes and one of 37. -/
def fullGroup : List Entry :=
  { dev := 0, start := 0, data := List.replicate 37 0 } ::
    List.replicate 47 { dev := 0, start := 0, data := List.replicate 21 0 }

theorem fullGroup_length : fullGroup.length = 48 := rfl

theorem fullGroup_bytes : entriesBytes fullGroup = 1024 := rfl

/-- Settles O54: the ring check gives the reason, a ring within its device is judged by its size, and the largest
record fills the least ring exactly. -/
theorem ringChecksRejectTheRecord : Obligations.RingChecksRejectTheRecord := by
  refine ⟨?_, recordSize_le_ringMin, fullGroup, Nat.le_of_eq fullGroup_length, Nat.le_of_eq fullGroup_bytes, ?_⟩
  · intro st bs h0 h1 hcrc hver hdev hreg t d first pages
    have reason := validate_eq_badRing_iff h0 h1 hcrc hver hdev hreg
    refine ⟨reason.trans (ringOk_eq_false_iff bs), fun hsize hpages => ?_, fun hindex hfits => ?_⟩
    · have hsmall : pages * t.pageSize d < 1232 := by rw [hsize, hpages]; decide
      exact reason.2 ((ringOk_eq_false_iff bs).2 (.inr (.inr hsmall)))
    · have passes : validate st bs ≠ .badRing ↔ 1232 ≤ pages * t.pageSize d := by
        rw [ne_eq, reason, Bool.not_eq_false]
        exact ringOk_iff_of_fits hindex hfits
      refine ⟨?_, ?_, ?_, ?_, ?_⟩ <;> intro hsize <;> rw [passes, hsize] <;> omega
  · rw [recordSize, fullGroup_length, fullGroup_bytes, Config.headerSize]

end Sys2Proof.Machine
end

section
/-! SUPPORT. What a command can come to: every next state of an event, block by block of the dispatch, and the
induction over steps that the invariants O56 to O59 and the queue's statement O2 share. -/

namespace Sys2Proof.Machine

/-- What an event's meaning answers with, once the setup unit's due step and the closing conditions before it have been
taken; each constructor keeps the conditions of its row that some invariant rests on. -/
inductive Event (s : State) : State → Prop
  /-- the event is nothing to the part -/
  | nothing : Event s s
  -- conditions and timers
  | frameBegins : s.port.frame = none → Event s s.beginFrame
  | frameRestarts (k : EndKind) : Event s (s.concludeFrame k).beginFrame
  | frameEnds (k : EndKind) : k ≠ .restart → Event s (s.concludeFrame k)
  | holdAExpires (f : Frame) : s.port.frame = some f → s.port.hold = .a → Event s (s.conclude (s.expireHoldA f))
  | readFills : Event s (s.conclude s.fillRead)
  | relayFills : Event s (s.conclude s.fillRelay)
  -- bytes of the controller
  | deadByte : Event s (s.answerWith false)
  | deviceByteRefused (b : Byte) : Event s (s.closePending.deviceByteRefused b)
  | deviceByteClassed (f : Frame) (b : Byte) : s.port.frame = some f → f.headerBytes = 0 →
      Event s (s.closePending.conclude (s.classDeviceByte b))
  | firstAddressByte (f : Frame) (b : Byte) : s.port.frame = some f → f.cls = .undecided → f.headerBytes = 1 →
      Event s (s.firstAddressByte b)
  | secondAddressByte (f : Frame) (d : Nat) (w : Word) : s.port.frame = some f → f.cls = .undecided →
      f.headerBytes = 2 → s.port.hold = .none → Event s (s.secondAddressByte d w)
  | dataRefused : Event s s.refuseData
  | relayByte (f : Frame) (b : Byte) : s.port.frame = some f → Event s (s.relayByte b)
  | homeRelayBegins (f : Frame) (b : Byte) (a : Word) : s.port.frame = some f → f.cls = .relay →
      Event s (s.conclude (s.beginHomeRelay b a))
  | stagedByte (f : Frame) (b : Byte) : s.port.frame = some f → Event s (s.stagedDataByte f b)
  | markByte (f : Frame) (b : Byte) : s.port.frame = some f → Event s (s.markDataByte f b)
  | postedByte (f : Frame) (b : Byte) : s.port.frame = some f → Event s (s.postedDataByte f b)
  -- the controller's answers in a read
  | readAcked (f : Frame) : s.port.frame = some f → Event s ((s.advanceRead.decideHold .b).setActivity .byte)
  | readNaked : s.port.hold = .none →
      Event s ((s.advanceRead.beginClosing .nakStop false).updRead fun r => { r with phase := .drained })
  | fillerSent : Event s (s.advanceRead.sendUp 0xFF)
  | relayFillerSent : Event s (s.sendUp 0xFF)
  | relayAcked (f : Frame) : s.port.frame = some f →
      Event s ((s.decideHold .b).updRelay fun o => o.map fun r => { r with stage := .readByte })
  | relayNaked : Event s (s.updRelay fun o => o.map fun r => { r with stage := .drained })
  -- marks
  | markActs (v : Byte) : s.port.frame = none → Event s (s.conclude (s.actOnMark v))
  -- polls and frames of the part
  | pollAcknowledged (r : Requester) (p : Poll) : s.down.grant = some r → Event s (s.conclude (s.pollAcknowledged r p))
  | pollExpires (r : Requester) (p : Poll) : s.down.grant = some r → Event s (s.conclude (s.expirePoll r p))
  | intervalBegins : Event s s.waitInterval
  | attemptBegins : Event s s.nextAttempt
  | writeSent (a : DevAddr) : Event s (s.pollAfterWrite a false)
  | writeRefused (r : Requester) (a : DevAddr) : Event s ((s.noteRefusal r).pollAfterWrite a true)
  | readRefused (r : Requester) : Event s (s.conclude (s.freeBus.readRefused r))
  | verifyDone (bs : List Byte) : Event s (s.conclude (s.freeBus.verifyDone bs))
  | setupReadDone (bs : List Byte) : bs.length = Config.areaSize → Event s (s.conclude (s.freeBus.loadRead bs))
  | scanHeaderDone (o : Nat) (cs : List Candidate) (bs : List Byte) : Event s (s.conclude (s.freeBus.scanHeader o cs bs))
  | scanRecordDone (o : Nat) (cs : List Candidate) (bs : List Byte) : Event s (s.conclude (s.freeBus.scanRecord o cs bs))
  -- proxy reads
  | streamOpens : s.port.hold = .a →
      Event s ((((s.releaseHold.answerWith true).updRead fun r => { r with phase := .streaming }).decideHold .b).setActivity .byte)
  | streamRefused : Event s (s.refuseRead.beginClosing .stop false)
  | byteClocked : Event s (s.setActivity .byte)
  | closes (how : Closing) (home : Bool) : Event s (s.beginClosing how home)
  | bytePassed (b : Byte) : Event s (s.passByte b)
  -- relays
  | relayDeviceAcked (f : Frame) (r : Relay) : s.port.frame = some f → s.relay = some r → Event s (s.relayDeviceAcked r)
  | relayDeviceRefused : Event s s.relayDeviceRefused
  | relayByteAcked (f : Frame) (r : Relay) : s.port.frame = some f → s.relay = some r → Event s (s.relayByteAcked r)
  | relayByteRefused (f : Frame) (r : Relay) : s.port.frame = some f → s.relay = some r → Event s (s.relayByteRefused r)
  | relayBytePassed (f : Frame) (r : Relay) (b : Byte) : s.port.frame = some f → s.relay = some r →
      Event s ((s.releaseHold.sendUp b).updRelay fun _ => some { r with stage := .readHeld })
  -- bus health
  | clearBegins : Event s s.beginClear
  | stuckReported (r : Requester) : s.down.grant = some r → Event s (s.conclude (s.reportStuck r))
  | clearAttemptFails : Event s s.countClear
  | clearSucceeds (r : Requester) : s.down.grant = some r → Event s (s.conclude (s.countClear.resumeAfterClear r))
  | clearFails (r : Requester) : s.down.grant = some r → Event s (s.conclude (s.countClear.reportStuck r))

theorem fallOfUsda_event {s t : State} (h : s.fallOfUsda = .next t) : Event s t := by
  unfold State.fallOfUsda at h
  split at h
  · cases h; exact .nothing
  · split at h
    · cases h; exact .frameBegins ‹_›
    · split at h
      · cases h; exact .frameRestarts _
      · cases h

theorem relayFrameByte_event {s t : State} {f : Frame} {b : Byte} (hf : s.port.frame = some f) (hc : f.cls = .relay)
    (h : s.relayFrameByte f b = .next t) : Event s t := by
  unfold State.relayFrameByte at h
  split at h
  · cases h; exact .dataRefused
  · split at h
    · split at h
      · cases h; exact .relayByte f b hf
      · cases h
    · split at h
      · cases h; exact .homeRelayBegins f b _ hf hc
      · cases h

theorem answerRead_event {s t : State} {f : Frame} {ack : Bool} (hf : s.port.frame = some f) (hh : s.port.hold = .none)
    (h : s.answerRead ack = .next t) : Event s t := by
  unfold State.answerRead at h
  split at h
  · split at h
    · split at h
      · cases h; exact .readAcked f hf
      · cases h; exact .readNaked hh
    · cases h
  · cases h; exact .fillerSent
  · cases h; exact .nothing
  all_goals cases h

theorem answerRelay_event {s t : State} {f : Frame} {ack : Bool} (hf : s.port.frame = some f)
    (h : s.answerRelay f ack = .next t) : Event s t := by
  unfold State.answerRelay at h
  split at h
  · cases h; exact .relayFillerSent
  · split at h
    · split at h
      · split at h
        · cases h; exact .relayAcked f hf
        · cases h; exact .relayNaked
      · cases h; exact .nothing
      · cases h
    · cases h

theorem markEvent_event {s t : State} {v : Byte} (h : s.markEvent v = .next t) : Event s t := by
  unfold State.markEvent at h
  split at h
  · cases h
  · split at h
    · cases h; exact .markActs v ‹_›
    · split at h
      · cases h; exact .frameEnds _ nofun
      · cases h

theorem onAttempt_event {s t : State} {F : Requester → Poll → Result}
    (hF : ∀ r p, s.down.grant = some r → F r p = .next t → Event s t) (h : s.onAttempt F = .next t) : Event s t := by
  unfold State.onAttempt at h
  split at h
  · split at h
    · exact hF _ _ ‹_› h
    · cases h
  · cases h

theorem onWrite_event {s t : State} {F : Requester → DevAddr → Result} (hF : ∀ r a, F r a = .next t → Event s t)
    (h : s.onWrite F = .next t) : Event s t := by
  unfold State.onWrite at h
  split at h
  · split at h
    · cases h
    · exact hF _ _ h
  · cases h

theorem onRead_event {s t : State} {F : Requester → Nat → Result} (hF : ∀ r n, F r n = .next t → Event s t)
    (h : s.onRead F = .next t) : Event s t := by
  unfold State.onRead at h
  split at h
  · split at h
    · cases h
    · exact hF _ _ h
  · cases h

theorem headerDone_event {s t : State} {ack : Bool} (h : s.headerDone ack = .next t) : Event s t := by
  unfold State.headerDone at h
  split at h
  · split at h
    · cases h
    · split at h
      · cases h; exact .streamOpens (Classical.not_not.1 ‹_›)
      · cases h; exact .streamRefused
  · split at h
    · cases h; exact .byteClocked
    · cases h; exact .closes _ _
  all_goals cases h

theorem relayAnswered_event {s t : State} {f : Frame} {r : Relay} {ack : Bool} (hf : s.port.frame = some f)
    (hr : s.relay = some r) (h : s.relayAnswered r ack = .next t) : Event s t := by
  unfold State.relayAnswered at h
  split at h
  · split at h
    · cases h; exact .relayDeviceAcked f r hf hr
    · cases h; exact .relayDeviceRefused
  · split at h
    · cases h; exact .relayByteAcked f r hf hr
    · cases h; exact .relayByteRefused f r hf hr
  · cases h

/-- Every command but RESET, RESET_RELEASE and the setup unit's two rows is an event. -/
theorem exec_eq_onEvent {c : Instr} (h1 : c ≠ .reset) (h2 : ∀ ha sb, c ≠ .resetRelease ha sb)
    (h3 : c ≠ .reloadReadRequest) (h4 : c ≠ .setupSwap) :
    ∃ f, (∀ s, exec c s = onEvent f s) ∧ ∀ s t, f s = .next t → Event s t := by
  cases c with
  | reset => exact absurd rfl h1
  | resetRelease ha sb => exact absurd rfl (h2 ha sb)
  | reloadReadRequest => exact absurd rfl h3
  | setupSwap => exact absurd rfl h4
  | start | repeatedStart => exact ⟨_, fun _ => rfl, fun _ _ => fallOfUsda_event⟩
  | stop =>
    refine ⟨_, fun s => show execStop s = _ from rfl, fun s t h => ?_⟩
    split at h
    · cases h; exact .nothing
    · split at h
      · cases h; exact .frameEnds _ nofun
      · cases h
  | misplacedCondition isStart =>
    refine ⟨_, fun s => show execMisplacedCondition isStart s = _ from rfl, fun s t h => ?_⟩
    split at h
    · split at h
      · exact fallOfUsda_event h
      · cases h; exact .nothing
    · split at h
      · cases h
      · split at h
        · cases h; exact .frameRestarts _
        · cases h; exact .frameEnds _ nofun
  | deviceByte b =>
    refine ⟨_, fun s => show execDeviceByte b s = _ from rfl, fun s t h => ?_⟩
    split at h
    · cases h; exact .nothing
    · split at h
      · cases h; exact .deadByte
      · split at h
        · cases h
        · split at h
          · cases h; exact .deviceByteRefused b
          · cases h; exact .deviceByteClassed _ b ‹_› (Decidable.not_not.1 fun hn => ‹¬ (_ ∨ _)› (.inr hn))
  | wordAddressByte b =>
    refine ⟨_, fun s => show execWordAddressByte b s = _ from rfl, fun s t h => ?_⟩
    split at h
    · cases h; exact .nothing
    · split at h
      · cases h; exact .deadByte
      · split at h
        · cases h
        · split at h
          · cases h; exact .firstAddressByte _ b ‹_› ‹_› ‹_›
          · cases h; exact .secondAddressByte _ _ _ ‹_› ‹_› ‹_› (Classical.not_not.1 ‹_›)
          · split at h
            · exact relayFrameByte_event ‹_› ‹_› h
            · cases h
          · cases h
  | dataByte b =>
    refine ⟨_, fun s => show execDataByte b s = _ from rfl, fun s t h => ?_⟩
    split at h
    · cases h; exact .nothing
    · split at h
      · cases h; exact .deadByte
      · split at h
        · cases h
        · split at h
          · cases h; exact .stagedByte _ b ‹_›
          · cases h; exact .markByte _ b ‹_›
          · cases h; exact .dataRefused
          · cases h; exact .postedByte _ b ‹_›
          · split at h
            · exact relayFrameByte_event ‹_› ‹_› h
            · cases h
          all_goals cases h
  | controllerAnswer ack =>
    refine ⟨_, fun s => show execControllerAnswer ack s = _ from rfl, fun s t h => ?_⟩
    split at h
    · cases h; exact .nothing
    · split at h
      · cases h; exact .nothing
      · split at h
        · cases h
        · split at h
          · exact answerRead_event ‹_› (Classical.not_not.1 ‹_›) h
          · split at h
            · exact answerRelay_event ‹_› h
            · cases h
          · cases h
  | holdTimerExpiryA =>
    refine ⟨_, fun s => show execHoldTimerExpiryA s = _ from rfl, fun s t h => ?_⟩
    split at h
    · split at h
      · cases h; exact .holdAExpires _ ‹_› ‹_›
      · cases h
    · cases h
  | holdTimerExpiryB =>
    refine ⟨_, fun s => show execHoldTimerExpiryB s = _ from rfl, fun s t h => ?_⟩
    split at h
    · split at h
      · cases h; exact .readFills
      · split at h
        · cases h; exact .relayFills
        · cases h
    · cases h
  | idleTimerExpiry =>
    refine ⟨_, fun s => show execIdleTimerExpiry s = _ from rfl, fun s t h => ?_⟩
    split at h
    · cases h; exact .frameEnds _ nofun
    · cases h
  | discard | retry | pause | resume | clear => exact ⟨_, fun _ => rfl, fun _ _ => markEvent_event⟩
  | invalidMark value =>
    refine ⟨_, fun s => show execInvalidMark value s = _ from rfl, fun s t h => ?_⟩
    split at h
    · exact markEvent_event h
    · cases h
  | pollAttemptAcknowledged =>
    exact ⟨_, fun s => show execPollAttemptAcknowledged s = _ from rfl, fun s t => onAttempt_event fun r p hg h => by cases h; exact .pollAcknowledged r p hg⟩
  | pollAttemptNak age =>
    refine ⟨_, fun s => show execPollAttemptNak age s = _ from rfl, fun s t => onAttempt_event fun r p hg h => ?_⟩
    split at h
    · cases h; exact .pollExpires r p hg
    · cases h; exact .intervalBegins
  | pollIntervalElapsed =>
    refine ⟨_, fun s => show execPollIntervalElapsed s = _ from rfl, fun s t h => ?_⟩
    split at h
    · split at h
      · cases h; exact .attemptBegins
      · cases h
    · cases h
  | pollExpired => exact ⟨_, fun s => show execPollExpired s = _ from rfl, fun s t => onAttempt_event fun r p hg h => by cases h; exact .pollExpires r p hg⟩
  | writeFrameSent => exact ⟨_, fun s => show execWriteFrameSent s = _ from rfl, fun s t => onWrite_event fun r a h => by cases h; exact .writeSent a⟩
  | frameRefused => exact ⟨_, fun s => show execFrameRefused s = _ from rfl, fun s t => onWrite_event fun r a h => by cases h; exact .writeRefused r a⟩
  | readFrameRefused => exact ⟨_, fun s => show execReadFrameRefused s = _ from rfl, fun s t => onRead_event fun r n h => by cases h; exact .readRefused r⟩
  | verifyReadDone bs =>
    refine ⟨_, fun s => show execVerifyReadDone bs s = _ from rfl, fun s t h => ?_⟩
    split at h
    · refine onRead_event (fun r n h => ?_) h
      split at h
      · cases h; exact .verifyDone bs
      · cases h
    · cases h
  | setupReadDone bs =>
    refine ⟨_, fun s => show execSetupReadDone bs s = _ from rfl, fun s t h => ?_⟩
    split at h
    · rename_i hlen
      refine onRead_event (fun r n h => ?_) h
      split at h
      · cases h; exact .setupReadDone bs (of_decide_eq_true hlen)
      · cases h
    · cases h
  | scanHeaderReadDone bs =>
    refine ⟨_, fun s => show execScanHeaderReadDone bs s = _ from rfl, fun s t h => ?_⟩
    split at h
    · refine onRead_event (fun r n h => ?_) h
      split at h
      · split at h
        · cases h; exact .scanHeaderDone _ _ bs
        · cases h
      · cases h
    · cases h
  | scanRecordReadDone bs =>
    refine ⟨_, fun s => show execScanRecordReadDone bs s = _ from rfl, fun s t h => ?_⟩
    split at h
    · refine onRead_event (fun r n h => ?_) h
      split at h
      · split at h
        · split at h
          · cases h; exact .scanRecordDone _ _ bs
          · cases h
        · cases h
      · cases h
    · cases h
  | readHeaderDone ack =>
    refine ⟨_, fun s => show execReadHeaderDone ack s = _ from rfl, fun s t h => ?_⟩
    split at h
    · split at h
      · cases h
        cases ack
        · exact .closes _ _
        · exact .byteClocked
      · exact headerDone_event h
    · cases h
  | memoryByteHeld b =>
    refine ⟨_, fun s => show execMemoryByteHeld b s = _ from rfl, fun s t h => ?_⟩
    split at h
    · split at h
      · cases h; exact .closes _ _
      · split at h
        · cases h; exact .bytePassed b
        · cases h
    · cases h
  | relayAnswer ack =>
    refine ⟨_, fun s => show execRelayAnswer ack s = _ from rfl, fun s t h => ?_⟩
    split at h
    · cases h; exact .closes _ _
    · split at h
      · split at h
        · exact relayAnswered_event ‹_› ‹_› h
        · cases h
      · cases h
  | relayReadByte b =>
    refine ⟨_, fun s => show execRelayReadByte b s = _ from rfl, fun s t h => ?_⟩
    split at h
    · cases h; exact .closes _ _
    · split at h
      · split at h
        · cases h; exact .relayBytePassed _ _ b ‹_› ‹_›
        · cases h
      · cases h
  | stuckBusDetected =>
    refine ⟨_, fun s => show execStuckBusDetected s = _ from rfl, fun s t h => ?_⟩
    split at h
    · cases h
    · split at h
      · split at h
        · cases h; exact .clearBegins
        · cases h; exact .stuckReported _ ‹_›
      · cases h
  | busClearAttemptEnd success =>
    refine ⟨_, fun s => show execBusClearAttemptEnd success s = _ from rfl, fun s t h => ?_⟩
    split at h
    · cases h
    · split at h
      · split at h
        · cases h; exact .clearSucceeds _ ‹_›
        · split at h
          · cases h; exact .clearAttemptFails
          · cases h; exact .clearFails _ ‹_›
      · cases h
  | _ =>
    -- SEAL, the one row left: its name is a keyword of Lean, so that no alternative can give it
    rename_i tag
    refine ⟨_, fun s => show execSeal tag s = _ from rfl, fun s t h => ?_⟩
    split at h
    · exact markEvent_event h
    · cases h

/-- A swap that is due is the setup unit's due step. -/
theorem State.takeSetup_of_swapDue {s : State} (h : s.swapDue = true) : s.takeSetup = s.takeSwap := by
  have hw : s.setup.reload = .waitSwap := (of_decide_eq_true h).1
  have hr : s.reloadDue = false := by simp [State.reloadDue, hw]
  simp [State.takeSetup, hr, h]

theorem State.takeSetup_of_reloadDue {s : State} (h : s.reloadDue = true) : s.takeSetup = s.takeReloadRequest := by
  simp [State.takeSetup, h]

/-- What RESET, the release, the setup unit's due step, the closing conditions and every event keep, every command
keeps. -/
theorem exec_keeps {P : State → Prop}
    (hreset : ∀ s, P s → P { State.reset with freeIndex := s.freeIndex, pending := s.pending })
    (hrelease : ∀ ha sb s, P s →
      P ((s.released ha sb).conclude ((s.released ha sb).placeInternal .homePoll)))
    (hsetup : ∀ s, P s → P s.takeSetup) (hclosing : ∀ s, P s → P s.takeClosing)
    (hevent : ∀ s t, P s → Event s t → P t) {c : Instr} {s t : State} (hs : P s) (h : exec c s = .next t) : P t := by
  by_cases h1 : c = .reset
  · subst h1; cases h; exact hreset s hs
  by_cases h2 : ∃ ha sb, c = .resetRelease ha sb
  · obtain ⟨ha, sb, rfl⟩ := h2
    change execResetRelease ha sb s = _ at h
    unfold execResetRelease at h
    split at h
    · cases h; exact hrelease ha sb s hs
    · cases h
  by_cases h3 : c = .reloadReadRequest
  · subst h3
    change execReloadReadRequest s = _ at h
    unfold execReloadReadRequest at h
    split at h
    · cases h; exact State.takeSetup_of_reloadDue ‹_› ▸ hsetup s hs
    · cases h
  by_cases h4 : c = .setupSwap
  · subst h4
    change execSetupSwap s = _ at h
    unfold execSetupSwap at h
    split at h
    · cases h; exact State.takeSetup_of_swapDue ‹_› ▸ hsetup s hs
    · split at h
      · cases h; exact State.takeSetup_of_swapDue ‹_› ▸ hsetup _ (hclosing s hs)
      · cases h
  obtain ⟨f, hf, hev⟩ := exec_eq_onEvent h1 (fun ha sb e => h2 ⟨ha, sb, e⟩) h3 h4
  rw [hf] at h
  rcases onEvent_next h with h | h
  · exact hevent _ _ (hsetup s hs) (hev _ _ h)
  · exact hevent _ _ (hsetup _ (hclosing _ (hsetup s hs))) (hev _ _ h)

/-- What every command keeps, and time passing with no command waiting keeps, every step keeps. -/
theorem step_keeps {P : State → Prop} (hexec : ∀ c s t, P s → exec c s = .next t → P t)
    (hpending : ∀ s cs, P s → P (s.withPending cs)) (helapse : ∀ s, P s → P s.elapse) {s t : State} (hs : P s)
    (h : step s = .next t) : P t := by
  unfold step at h
  split at h
  · cases h; exact helapse s hs
  · exact hexec _ _ _ (hpending s _ hs) h

/-- Every event leaves the queue of commands as it is. -/
theorem Event.pending_eq {s t : State} (h : Event s t) : t.pending = s.pending := by
  cases h <;> simp

/-- Settles O2: the queue is kept by the reset commands, by what comes before an event, and by every event. -/
theorem commandsKeepTheQueue : Obligations.CommandsKeepTheQueue := by
  intro c s t h
  refine exec_keeps (P := fun u => u.pending = s.pending) ?_ ?_ ?_ ?_ ?_ rfl h
  · exact fun u hu => hu
  · exact fun ha sb u hu => by simpa [State.released] using hu
  · exact fun u hu => by simpa using hu
  · exact fun u hu => by simpa using hu
  · exact fun u v hu hev => hev.pending_eq.trans hu

end Sys2Proof.Machine
end

section
/-! PROOF. The arbiter (R151, R152): no operation takes a request from the internal queue or moves the fairness counter
but the choice itself, so that the counter's law is kept; and every event ends with nothing left for the arbiter to do
(O56). -/

namespace Sys2Proof.Machine

/-! ## No operation takes an internal request -/

/-- An operation applied after one that leaves the internal requests alone. -/
theorem State.intReqs_prefix_after {s t u : State} (h : t.down.intReqs = s.down.intReqs)
    (hp : t.down.intReqs <+: u.down.intReqs) : s.down.intReqs <+: u.down.intReqs :=
  h ▸ hp

theorem State.beginStep_intReqs (p : Phase) (k : Nat) (s : State) :
    (s.beginStep p k).down.intReqs = s.down.intReqs ++ [.engine] := rfl

theorem State.beginPass_intReqs (s : State) : s.down.intReqs <+: s.beginPass.down.intReqs := by
  unfold State.beginPass
  split
  · exact List.prefix_rfl
  · simp [State.beginStep_intReqs]

theorem State.startGroup_intReqs (s : State) : s.down.intReqs <+: s.startGroup.down.intReqs := by
  unfold State.startGroup
  split
  · split
    · exact List.prefix_rfl
    · split
      · simp [State.beginStep_intReqs]
      · exact s.beginPass_intReqs
  · exact List.prefix_rfl

theorem State.takeNext_intReqs (n : NextStep) (s : State) : s.down.intReqs <+: (s.takeNext n).down.intReqs := by
  cases n with
  | idle => exact State.intReqs_prefix_after (by simp) s.engineIdle.startGroup_intReqs
  | freshPass => exact s.beginPass_intReqs
  | step p k => exact List.prefix_append _ _

theorem State.atBoundary_intReqs (n : NextStep) (s : State) : s.down.intReqs <+: (s.atBoundary n).down.intReqs := by
  unfold State.atBoundary
  split
  · simp
  · exact s.takeNext_intReqs n

theorem State.requestReload_intReqs (s : State) :
    s.requestReload.down.intReqs = s.down.intReqs ++ [.setupRead] := rfl

theorem State.requestLoad_intReqs (s : State) : s.requestLoad.down.intReqs = s.down.intReqs ++ [.setupRead] := rfl

theorem State.replayEnd_intReqs (s : State) : s.down.intReqs <+: s.replayEnd.down.intReqs := by
  unfold State.replayEnd
  split
  · split
    · simp
    · simp [State.requestReload_intReqs]
  · exact List.prefix_rfl

theorem State.retire_intReqs (s : State) : s.down.intReqs <+: s.retire.down.intReqs := by
  unfold State.retire
  split
  · exact List.prefix_rfl
  · next g _ =>
    have h := State.atBoundary_intReqs .idle (s.removeRetired g).takeClaims
    simp only [State.takeClaims_leaves, State.removeRetired_leaves] at h
    exact h.trans (State.replayEnd_intReqs _)

theorem State.writeStepDone_intReqs (s : State) : s.down.intReqs <+: s.writeStepDone.down.intReqs := by
  unfold State.writeStepDone
  split
  · split
    · exact s.atBoundary_intReqs _
    · simpa using State.atBoundary_intReqs _ (s.updCurrent _)
  · simpa using State.atBoundary_intReqs _ (s.updCurrent _)
  · dsimp only
    split
    · simpa using State.atBoundary_intReqs _ (s.updCurrent _)
    · simpa using State.atBoundary_intReqs _ ((s.updCurrent _).updCurrent _)
  · exact s.retire_intReqs
  · exact List.prefix_rfl

theorem State.verifyDone_intReqs (bs : List Byte) (s : State) : s.down.intReqs <+: (s.verifyDone bs).down.intReqs := by
  unfold State.verifyDone
  split
  · exact List.prefix_rfl
  · split
    · simpa using State.atBoundary_intReqs _ (s.updCurrent _)
    · split
      · simpa using State.atBoundary_intReqs _ (s.updCurrent _)
      · simp

theorem State.repeatOrHalt_intReqs (code : FaultCode) (s : State) :
    s.down.intReqs <+: (s.repeatOrHalt code).down.intReqs := by
  unfold State.repeatOrHalt
  split
  · exact List.prefix_append _ _
  · simp

theorem State.rejectAttempt_intReqs (r : Reject) (s : State) :
    s.down.intReqs <+: (s.rejectAttempt r).down.intReqs := by
  unfold State.rejectAttempt
  dsimp only
  split
  · simp [State.requestLoad_intReqs]
  · simp

theorem State.loadFailed_intReqs (r : Reject) (s : State) : s.down.intReqs <+: (s.loadFailed r).down.intReqs := by
  unfold State.loadFailed
  split
  · split <;> simp
  · split
    · simp
    · exact s.rejectAttempt_intReqs r

theorem State.acceptLoad_intReqs (bs : List Byte) (s : State) : s.down.intReqs <+: (s.acceptLoad bs).down.intReqs := by
  have hcaught : (if s.setup.phase = .loading ∨ s.port.frame = none then s else s.catchFrame.dropRelay).down.intReqs
      = s.down.intReqs := by split <;> simp
  exact State.intReqs_prefix_after hcaught (List.prefix_append _ [Requester.scanRead])

theorem State.loadRead_intReqs (bs : List Byte) (s : State) : s.down.intReqs <+: (s.loadRead bs).down.intReqs := by
  unfold State.loadRead
  split
  · split
    · simp
    · split <;> simp
  · split
    · exact s.acceptLoad_intReqs bs
    · exact s.loadFailed_intReqs _

theorem State.setupReadRefused_intReqs (s : State) : s.down.intReqs <+: s.setupReadRefused.down.intReqs := by
  unfold State.setupReadRefused
  dsimp only
  split
  · split
    · simp
    · exact List.prefix_append _ _
  · exact State.intReqs_prefix_after (by simp) (State.loadFailed_intReqs .noAnswer _)

theorem State.scanReadRefused_intReqs (s : State) : s.down.intReqs <+: s.scanReadRefused.down.intReqs := by
  unfold State.scanReadRefused
  split
  · exact List.prefix_rfl
  · split
    · exact List.prefix_append _ _
    · simp [State.scanFailed]

theorem State.finishScan_intReqs (cs : List Candidate) (s : State) :
    s.down.intReqs <+: (s.finishScan cs).down.intReqs := by
  unfold State.finishScan
  split
  · simp [State.scanFailed]
  · dsimp only
    split
    · simp
    · refine List.IsPrefix.trans ?_ (State.startGroup_intReqs _)
      simp

theorem State.scanRecords_intReqs (cs : List Candidate) (s : State) :
    s.down.intReqs <+: (s.scanRecords cs).down.intReqs := by
  unfold State.scanRecords
  split
  · exact List.prefix_append _ _
  · exact s.finishScan_intReqs cs

theorem State.scanHeader_intReqs (o : Nat) (cs : List Candidate) (bs : List Byte) (s : State) :
    s.down.intReqs <+: (s.scanHeader o cs bs).down.intReqs := by
  unfold State.scanHeader
  dsimp only
  split
  · exact List.prefix_append _ _
  · exact s.scanRecords_intReqs _

theorem State.attemptPolled_intReqs (s : State) : s.down.intReqs <+: s.attemptPolled.down.intReqs := by
  unfold State.attemptPolled
  split
  · simp [State.requestLoad_intReqs]
  · exact List.prefix_rfl

theorem State.relayFailed_intReqs (c : OpFailure) (s : State) : s.down.intReqs <+: (s.relayFailed c).down.intReqs := by
  unfold State.relayFailed
  split
  · unfold State.relayPollFailed
    split
    · simpa using State.rejectAttempt_intReqs .noAnswer s.freeBus
    · simp
  · split <;> simp

theorem State.failOp_intReqs (r : Requester) (c : OpFailure) (s : State) :
    s.down.intReqs <+: (s.failOp r c).down.intReqs := by
  cases r with
  | posted i | read | engine | scanRead | homePoll => simp [State.failOp, State.scanFailed]
  | relay => exact s.relayFailed_intReqs c
  | setupRead => exact State.intReqs_prefix_after (by simp) (State.loadFailed_intReqs .noAnswer s.freeBus)

theorem State.openGrant_intReqs (r : Requester) (s : State) : s.down.intReqs <+: (s.openGrant r).down.intReqs := by
  unfold State.openGrant
  split
  · simp
  · dsimp only
    split
    · simp
    · split
      · simp
      · simp
      · simpa using State.failOp_intReqs r .deviceFaulted (s.granted r)

theorem State.reportStuck_intReqs (r : Requester) (s : State) :
    s.down.intReqs <+: (s.reportStuck r).down.intReqs := by
  unfold State.reportStuck
  exact State.intReqs_prefix_after (by rfl) (State.failOp_intReqs r .busStuck _)

theorem State.resumeAfterClear_intReqs (r : Requester) (s : State) :
    s.down.intReqs <+: (s.resumeAfterClear r).down.intReqs := by
  unfold State.resumeAfterClear
  dsimp only
  split
  · exact List.prefix_rfl
  · split
    · exact State.intReqs_prefix_after (by simp) (State.attemptPolled_intReqs _)
    · split
      · split <;> simp
      · simp
      · simp
      · simp

theorem State.markEffect_intReqs (v : Byte) (s : State) : s.down.intReqs <+: (markEffect v s).1.down.intReqs := by
  unfold markEffect
  split
  · simp
  split
  · unfold markSeal
    split
    · exact List.prefix_rfl
    · exact List.prefix_rfl
    · split
      · exact List.prefix_rfl
      split
      · exact List.prefix_rfl
      split
      · exact List.prefix_rfl
      · simpa using State.startGroup_intReqs ((s.updQueue _).updJournal _)
  split
  · unfold markRetry State.leaveHalted
    dsimp only
    split
    · refine List.IsPrefix.trans ?_ (State.atBoundary_intReqs _ _)
      split <;> simp
    · simp
  split
  · simp
  split
  · unfold markResume
    dsimp only
    split
    · simpa using State.takeNext_intReqs _ (s.updEngine _)
    · split <;> simp
  split <;> simp

theorem State.actOnMark_intReqs (v : Byte) (s : State) : s.down.intReqs <+: (s.actOnMark v).down.intReqs :=
  s.markEffect_intReqs v

theorem State.endFrame_intReqs (k : EndKind) (s : State) : s.down.intReqs <+: (s.endFrame k).down.intReqs := by
  unfold State.endFrame
  split
  · exact List.prefix_rfl
  · dsimp only
    split
    · refine List.IsPrefix.trans ?_ (State.actOnMark_intReqs _ _)
      simp
    · simp

theorem State.afterPoll_intReqs (r : Requester) (p : Poll) (s : State) :
    s.down.intReqs <+: (s.afterPoll r p).down.intReqs := by
  unfold State.afterPoll
  split
  · simp [State.requestLoad_intReqs]
  · split
    · split
      · simpa using State.repeatOrHalt_intReqs .writeRefused s.freeBus
      · simpa using State.writeStepDone_intReqs s.freeBus
    · simp
  · split <;> simp
  · split <;> simp
  · split
    · simpa using State.attemptPolled_intReqs s.freeBus
    · simp
  · simp
  · simp

theorem State.pollAcknowledged_intReqs (r : Requester) (p : Poll) (s : State) :
    s.down.intReqs <+: (s.pollAcknowledged r p).down.intReqs := by
  unfold State.pollAcknowledged
  exact State.intReqs_prefix_after (by simp) (State.afterPoll_intReqs r p _)

theorem State.expirePoll_intReqs (r : Requester) (p : Poll) (s : State) :
    s.down.intReqs <+: (s.expirePoll r p).down.intReqs := by
  unfold State.expirePoll
  exact State.intReqs_prefix_after (by simp) (State.failOp_intReqs r .pollExpired _)

theorem State.readRefused_intReqs (r : Requester) (s : State) :
    s.down.intReqs <+: (s.readRefused r).down.intReqs := by
  cases r with
  | engine => exact State.intReqs_prefix_after (by simp) (State.repeatOrHalt_intReqs .readRefused s.countAttempt)
  | setupRead => exact s.setupReadRefused_intReqs
  | scanRead => exact s.scanReadRefused_intReqs
  | posted i | read | relay | homePoll => exact List.prefix_rfl

/-! ## The fairness counter -/

/-- The law is kept where the counter stands and no internal request is taken. -/
theorem State.fairnessLaw.of_prefix {s t : State} (h : s.fairnessLaw) (hf : t.down.fairness = s.down.fairness)
    (hi : s.down.intReqs <+: t.down.intReqs) : t.fairnessLaw := by
  obtain ⟨hle, hz⟩ := h
  refine ⟨hf ▸ hle, fun ht => ?_⟩
  rw [hf]
  exact hz (List.prefix_nil.1 (ht ▸ hi))

/-- The choice of R151 keeps the law: the counter rises to 8 only while an internal request waits, and a grant to an
internal request sets it to 0. -/
theorem State.choose_fairnessLaw {s s' : State} {raced : Bool} {r : Requester} (h : s.fairnessLaw)
    (hc : s.choose raced = some (r, s')) : s'.fairnessLaw := by
  obtain ⟨hle, hz⟩ := h
  unfold State.choose at hc
  split at hc
  · cases hc
  · cases hc
    exact ⟨hle, hz⟩
  · cases hc
    exact ⟨Nat.zero_le _, fun _ => rfl⟩
  · next u us i is _ hi =>
    split at hc
    · cases hc
      exact ⟨Nat.zero_le _, fun _ => rfl⟩
    next hlt =>
    have hne : s.down.intReqs ≠ [] := by simp [hi]
    split at hc <;> cases hc
    · refine ⟨?_, fun he => absurd he hne⟩
      simp only [State.updDown]
      split <;> omega
    · exact ⟨by simp only [State.updDown_down]; omega, fun he => absurd he hne⟩

theorem State.conclude_fairnessLaw (s0 : State) {s : State} (h : s.fairnessLaw) : (s0.conclude s).fairnessLaw := by
  refine State.conclude_induct (fun u u' r raced hu _ hc => ?_) s0 s h
  have hu' : u'.fairnessLaw := u.choose_fairnessLaw hu hc
  exact hu'.of_prefix (by simp [State.award]) (State.openGrant_intReqs r (u'.award r))

/-! ## The arbiter settled -/

/-- The arbiter has nothing to do, and the counter is lawful. -/
def State.arbitrated (s : State) : Prop := s.settled ∧ s.fairnessLaw

theorem State.settled.of_same {s t : State} (h : s.settled) (hg : t.down.grant = s.down.grant)
    (hu : t.down.upFifo = s.down.upFifo) (hi : t.down.intReqs = s.down.intReqs) : t.settled := by
  rwa [State.settled, hg, hu, hi]

theorem State.arbitrated.of_same {s t : State} (h : s.arbitrated) (hg : t.down.grant = s.down.grant)
    (hu : t.down.upFifo = s.down.upFifo) (hi : t.down.intReqs = s.down.intReqs)
    (hf : t.down.fairness = s.down.fairness) : t.arbitrated :=
  ⟨h.1.of_same hg hu hi, h.2.of_prefix hf (hi ▸ List.prefix_rfl)⟩

/-- An event that concludes with the arbiter's grants leaves it with nothing to do. -/
theorem State.conclude_arbitrated (s0 : State) {s t : State} (h : s.arbitrated) (hf : t.down.fairness = s.down.fairness)
    (hi : s.down.intReqs <+: t.down.intReqs) : (s0.conclude t).arbitrated :=
  ⟨State.conclude_settles s0 t, State.conclude_fairnessLaw s0 (h.2.of_prefix hf hi)⟩

theorem State.concludeFrame_arbitrated (k : EndKind) {s : State} (h : s.arbitrated) :
    (s.concludeFrame k).arbitrated :=
  State.conclude_arbitrated s h (by simp) (s.endFrame_intReqs k)

theorem State.closePending_arbitrated {s : State} (h : s.arbitrated) : s.closePending.arbitrated :=
  State.conclude_arbitrated s h (by simp) (by simp)

theorem State.takeReloadRequest_arbitrated {s : State} (h : s.arbitrated) : s.takeReloadRequest.arbitrated :=
  State.conclude_arbitrated s h (by simp) (List.prefix_append _ _)

theorem State.takeSetup_arbitrated {s : State} (h : s.arbitrated) : s.takeSetup.arbitrated := by
  unfold State.takeSetup
  split
  · exact State.takeReloadRequest_arbitrated h
  · split
    · exact h.of_same (by simp) (by simp) (by simp) (by simp)
    · exact h

theorem State.takeClosing_arbitrated {s : State} (h : s.arbitrated) : s.takeClosing.arbitrated := by
  unfold State.takeClosing
  split
  · split
    · exact h
    · exact State.conclude_arbitrated s h (by simp) (by simp)
  · exact h

theorem State.classDeviceByte_fairnessLaw (b : Byte) {s : State} (h : s.arbitrated) :
    (s.classDeviceByte b).fairnessLaw := by
  have hp := (State.closePending_arbitrated h).2
  unfold State.classDeviceByte
  split
  · split
    · exact hp.of_prefix (by simp) (by simp)
    · exact hp.of_prefix (by simp) (by simp)
  · split
    · exact h.2.of_prefix (by simp) (by simp)
    · exact hp.of_prefix (by simp) (by simp)

theorem Event.arbitrated {s t : State} (h : s.arbitrated) (he : Event s t) : t.arbitrated := by
  cases he with
  | frameRestarts k =>
    exact (State.concludeFrame_arbitrated k h).of_same (by simp) (by simp) (by simp) (by simp)
  | frameEnds k _ => exact State.concludeFrame_arbitrated k h
  | deviceByteRefused b =>
    exact (State.closePending_arbitrated h).of_same (by simp) (by simp) (by simp) (by simp)
  | deviceByteClassed f b _ _ =>
    exact ⟨State.conclude_settles _ _, State.conclude_fairnessLaw _ (State.classDeviceByte_fairnessLaw b h)⟩
  | holdAExpires | readFills | relayFills | homeRelayBegins =>
    exact State.conclude_arbitrated s h (by simp) (by simp)
  | markActs v _ => exact State.conclude_arbitrated s h (by simp) (s.actOnMark_intReqs v)
  | pollAcknowledged r p _ => exact State.conclude_arbitrated s h (by simp) (s.pollAcknowledged_intReqs r p)
  | pollExpires r p _ => exact State.conclude_arbitrated s h (by simp) (s.expirePoll_intReqs r p)
  | readRefused r => exact State.conclude_arbitrated s h (by simp) (s.freeBus.readRefused_intReqs r)
  | verifyDone bs => exact State.conclude_arbitrated s h (by simp) (s.freeBus.verifyDone_intReqs bs)
  | setupReadDone bs _ => exact State.conclude_arbitrated s h (by simp) (s.freeBus.loadRead_intReqs bs)
  | scanHeaderDone o cs bs => exact State.conclude_arbitrated s h (by simp) (s.freeBus.scanHeader_intReqs o cs bs)
  | scanRecordDone o cs bs => exact State.conclude_arbitrated s h (by simp) (s.freeBus.scanRecords_intReqs _)
  | stuckReported r _ => exact State.conclude_arbitrated s h (by simp) (s.reportStuck_intReqs r)
  | clearSucceeds r _ => exact State.conclude_arbitrated s h (by simp) (s.countClear.resumeAfterClear_intReqs r)
  | clearFails r _ => exact State.conclude_arbitrated s h (by simp) (s.countClear.reportStuck_intReqs r)
  | _ => exact h.of_same (by simp) (by simp) (by simp) (by simp)

theorem State.reset_arbitrated : State.reset.arbitrated :=
  ⟨.inr ⟨rfl, rfl⟩, Nat.zero_le _, fun _ => rfl⟩

/-- Settles O56: every event that touches the queues or the bus ends in the arbiter's grants, which end settled, and
the counter moves only in its choice. -/
theorem stepKeepsArbiterSettled : Obligations.StepKeepsArbiterSettled := by
  intro s t hs hf h
  refine step_keeps (P := State.arbitrated) ?_ ?_ ?_ ⟨hs, hf⟩ h
  · intro c u v hu hc
    refine exec_keeps (P := State.arbitrated) ?_ ?_ (fun _ => State.takeSetup_arbitrated) (fun _ => State.takeClosing_arbitrated)
      (fun _ _ h => Event.arbitrated h) hu hc
    · exact fun w _ => State.reset_arbitrated.of_same rfl rfl rfl rfl
    · exact fun ha sb w _ => State.conclude_arbitrated _ State.reset_arbitrated rfl (List.prefix_append _ _)
  · exact fun u cs hu => hu.of_same rfl rfl rfl rfl
  · exact fun u hu => (State.takeClosing_arbitrated hu).of_same (by simp [State.elapse]) (by simp [State.elapse])
      (by simp [State.elapse]) (by simp [State.elapse])

end Sys2Proof.Machine
end

section
/-! PROOF. The timers and the relay of the upstream port (R127, R128, R131, R141): every operation inside a frame keeps
the timers' law and the frame's class, and makes no relay where none is; only the events of section 7 begin and end
frames and relays (O59). -/

namespace Sys2Proof.Machine

/-- The timers' law holds of the one state if it holds of the other, no relay has come, and the frame, if any, has the
class and the header it had. -/
structure State.FrameKept (s t : State) : Prop where
  timers : s.timerLaw → t.timerLaw
  relay : s.relay = none → t.relay = none
  header : t.port.frame.map (fun f => (f.cls, f.headerBytes)) = s.port.frame.map (fun f => (f.cls, f.headerBytes))

namespace State.FrameKept

theorem refl (s : State) : s.FrameKept s := ⟨id, id, rfl⟩

theorem trans {s t u : State} (h : s.FrameKept t) (h' : t.FrameKept u) : s.FrameKept u :=
  ⟨h'.timers ∘ h.timers, h'.relay ∘ h.relay, h'.header.trans h.header⟩

/-- What leaves the frame, its hold and its timers alone, and makes no relay. -/
theorem of_same {s t : State} (hf : t.port.frame = s.port.frame) (hh : t.port.hold = s.port.hold)
    (ht : t.port.holdTimer = s.port.holdTimer) (hi : t.port.idleTimer = s.port.idleTimer)
    (hr : s.relay = none → t.relay = none) : s.FrameKept t :=
  ⟨fun h => by simpa [timerLaw, hf, hh, ht, hi] using h, hr, by rw [hf]⟩

/-- A frame is in progress after as before. -/
theorem frame_eq_none {s t : State} (h : s.FrameKept t) : t.port.frame = none ↔ s.port.frame = none := by
  rw [← Option.map_eq_none_iff (f := fun f : Frame => (f.cls, f.headerBytes)), h.header, Option.map_eq_none_iff]

theorem relayLaw {s t : State} (h : s.FrameKept t) (hs : s.relayLaw) : t.relayLaw := by
  intro hr
  obtain ⟨f, hf, hc⟩ := hs fun hn => hr (h.relay hn)
  have hh := h.header
  rw [hf, Option.map_some, Option.map_eq_some_iff] at hh
  obtain ⟨g, hg, he⟩ := hh
  obtain ⟨hcls, hbytes⟩ := Prod.mk.inj he
  exact ⟨g, hg, by rwa [hcls, hbytes]⟩

end State.FrameKept

/-! ## The laws at once -/

def State.portLaw (s : State) : Prop := s.timerLaw ∧ s.relayLaw

theorem State.FrameKept.portLaw {s t : State} (h : s.FrameKept t) (hs : s.portLaw) : t.portLaw :=
  ⟨h.timers hs.1, h.relayLaw hs.2⟩

theorem State.portLaw.of_no_relay {s : State} (ht : s.timerLaw) (hr : s.relay = none) : s.portLaw :=
  ⟨ht, fun h => absurd hr h⟩

theorem State.beginFrame_portLaw (s : State) : s.beginFrame.portLaw := by
  refine ⟨?_, fun _ => ⟨newFrame s.setup.tables, rfl, .inr ⟨rfl, rfl⟩⟩⟩
  simp [State.timerLaw, State.beginFrame, State.updPort]

theorem State.clearFrame_timerLaw (s : State) : s.clearFrame.timerLaw := by
  simp [State.timerLaw, State.clearFrame, State.updPort]

theorem State.decideHold_timerLaw (h : HoldPoint) {s : State} (hf : s.port.frame ≠ none) :
    (s.decideHold h).timerLaw := by
  simp [State.timerLaw, State.decideHold, State.updPort, hf, Option.isSome_iff_ne_none]

theorem State.releaseHold_timerLaw (s : State) : s.releaseHold.timerLaw := by
  simp [State.timerLaw, State.releaseHold, State.updPort, Option.isSome_iff_ne_none]

theorem State.holdClock_timerLaw {s : State} (h : s.timerLaw) : s.holdClock.timerLaw := by
  obtain ⟨hhold, hidle, hbetween⟩ := h
  unfold State.holdClock
  split
  · exact ⟨hhold, hidle, hbetween⟩
  · next hh =>
    have hf : s.port.frame ≠ none := fun hf => hh (hbetween hf)
    simp [State.timerLaw, State.updPort, hf, hh]

/-! ## Operations within a frame -/

theorem State.updFrame_frameKept {F : Frame → Frame} (s : State) (hc : ∀ f, (F f).cls = f.cls)
    (hb : ∀ f, (F f).headerBytes = f.headerBytes) : s.FrameKept (s.updFrame F) := by
  refine ⟨fun h => ?_, id, ?_⟩
  · simpa [State.timerLaw, State.updFrame, State.updPort] using h
  · simp only [State.updFrame, State.updPort_port, Option.map_map, Function.comp_def, hc, hb]

theorem State.releaseHold_frameKept (s : State) : s.FrameKept s.releaseHold :=
  ⟨fun _ => s.releaseHold_timerLaw, id, rfl⟩

theorem State.answerWith_frameKept (ack : Bool) (s : State) : s.FrameKept (s.answerWith ack) :=
  .of_same rfl rfl rfl rfl id

theorem State.sendUp_frameKept (b : Byte) (s : State) : s.FrameKept (s.sendUp b) := .of_same rfl rfl rfl rfl id

theorem State.killFrame_frameKept (s : State) : s.FrameKept s.killFrame :=
  s.updFrame_frameKept (fun _ => rfl) fun _ => rfl

theorem State.ackData_frameKept (s : State) : s.FrameKept s.ackData :=
  (s.answerWith_frameKept true).trans (State.updFrame_frameKept _ (fun _ => rfl) fun _ => rfl)

theorem State.refuseData_frameKept (s : State) : s.FrameKept s.refuseData :=
  (s.answerWith_frameKept false).trans (State.updFrame_frameKept _ (fun _ => rfl) fun _ => rfl)

theorem State.refuseHeld_frameKept (s : State) : s.FrameKept s.refuseHeld :=
  s.releaseHold_frameKept.trans <| (State.answerWith_frameKept _ _).trans (State.killFrame_frameKept _)

theorem State.refuseRead_frameKept (s : State) : s.FrameKept s.refuseRead :=
  s.refuseHeld_frameKept.trans (.of_same rfl rfl rfl rfl id)

theorem State.fillRead_frameKept (s : State) : s.FrameKept s.fillRead := by
  have h : s.FrameKept (s.updRead fun r => { r with phase := .filling }) := .of_same rfl rfl rfl rfl id
  unfold State.fillRead
  dsimp only
  split
  · exact h.trans <| (State.releaseHold_frameKept _).trans (State.sendUp_frameKept _ _)
  · exact h

theorem State.dropRelay_frameKept (s : State) : s.FrameKept s.dropRelay := .of_same rfl rfl rfl rfl fun _ => rfl

theorem State.updRelay_map_frameKept (F : Relay → Relay) (s : State) :
    s.FrameKept (s.updRelay fun o => o.map F) :=
  .of_same rfl rfl rfl rfl fun h => by simp [h]

theorem State.releasePosted_frameKept (s : State) : s.FrameKept s.releasePosted := by
  unfold State.releasePosted
  split
  · exact .refl s
  · split
    · split
      · next d a _ _ =>
        have h : s.FrameKept ((s.reserveSlot d a).setPointer d a) :=
          .of_same (by simp) (by simp) (by simp) (by simp) (by simp)
        exact h.trans <| (State.releaseHold_frameKept _).trans (State.answerWith_frameKept _ _)
      · exact .refl s
    · exact .refl s

theorem State.slotDone_frameKept (i : SlotId) (s : State) : s.FrameKept (s.slotDone i) :=
  (FrameKept.of_same rfl rfl rfl rfl id : s.FrameKept (s.setSlot i .free)).trans (State.releasePosted_frameKept _)

theorem State.readFailed_frameKept (s : State) : s.FrameKept s.readFailed := by
  have h : s.FrameKept (s.endPoll.setActivity .none) := .of_same rfl rfl rfl rfl id
  unfold State.readFailed
  split
  · exact .of_same rfl rfl rfl rfl id
  · dsimp only
    split
    · exact h.trans (State.refuseRead_frameKept _)
    · exact h.trans (State.fillRead_frameKept _)
    · exact h

theorem State.relayLost_frameKept (s : State) : s.FrameKept s.relayLost := by
  unfold State.relayLost
  split
  · exact .refl s
  · split
    · split
      · exact s.refuseHeld_frameKept
      split
      · exact s.releaseHold_frameKept.trans <| (State.sendUp_frameKept _ _).trans
          (State.updFrame_frameKept _ (fun _ => rfl) fun _ => rfl)
      split
      · exact s.updFrame_frameKept (fun _ => rfl) fun _ => rfl
      · exact s.killFrame_frameKept
    · exact .refl s

theorem State.relayFailed_frameKept (c : OpFailure) (s : State) : s.FrameKept (s.relayFailed c) := by
  unfold State.relayFailed
  split
  · exact .of_same (by simp) (by simp) (by simp) (by simp) (by simp)
  · split
    · have h : s.FrameKept s.endPoll := .of_same rfl rfl rfl rfl id
      exact h.trans <| (State.relayLost_frameKept _).trans (State.updRelay_map_frameKept _ _)
    · have h : s.FrameKept s.freeBus := .of_same rfl rfl rfl rfl id
      exact h.trans <| (State.refuseHeld_frameKept _).trans (State.dropRelay_frameKept _)

theorem State.failOp_frameKept (r : Requester) (c : OpFailure) (s : State) : s.FrameKept (s.failOp r c) := by
  cases r with
  | posted i =>
    have h : s.FrameKept (s.freeBus.forwardFailure (s.forward.get i).dev (s.forward.get i).start) :=
      .of_same rfl rfl rfl rfl id
    exact h.trans (State.slotDone_frameKept i _)
  | read => exact s.readFailed_frameKept
  | relay => exact s.relayFailed_frameKept c
  | engine | setupRead | scanRead | homePoll =>
    unfold State.failOp
    exact .of_same (by simp) (by simp) (by simp) (by simp) (by simp)

theorem State.sendFrame_frameKept (r : Requester) (s : State) : s.FrameKept (s.sendFrame r) := by
  cases r with
  | relay => exact s.updRelay_map_frameKept _
  | read =>
    unfold State.sendFrame
    dsimp only
    split <;> exact .of_same rfl rfl rfl rfl id
  | posted i | engine | setupRead | scanRead | homePoll => exact .of_same rfl rfl rfl rfl id

theorem State.granted_frameKept (r : Requester) (s : State) : s.FrameKept (s.granted r) := by
  cases r with
  | relay => exact s.updRelay_map_frameKept _
  | posted i =>
    unfold State.granted
    dsimp only
    split <;> exact .of_same rfl rfl rfl rfl id
  | read | engine | setupRead | scanRead | homePoll => exact .of_same rfl rfl rfl rfl id

theorem State.openGrant_frameKept (r : Requester) (s : State) : s.FrameKept (s.openGrant r) := by
  unfold State.openGrant
  split
  · exact .of_same rfl rfl rfl rfl id
  · refine (s.granted_frameKept r).trans ?_
    dsimp only
    split
    · exact State.updRelay_map_frameKept _ _
    · split
      · exact State.sendFrame_frameKept r _
      · exact .of_same rfl rfl rfl rfl id
      · exact State.failOp_frameKept r _ _

/-- The choice of a request is the arbiter's own. -/
theorem State.choose_frameKept {s s' : State} {raced : Bool} {r : Requester} (h : s.choose raced = some (r, s')) :
    s.FrameKept s' := by
  unfold State.choose at h
  repeat' split at h
  all_goals cases h
  all_goals exact .of_same rfl rfl rfl rfl id

theorem State.conclude_frameKept (s0 s : State) : s.FrameKept (s0.conclude s) := by
  refine State.conclude_induct (P := s.FrameKept) (fun u u' r raced hu _ hc => ?_) s0 s (.refl s)
  have ha : u'.FrameKept (u'.award r) := .of_same rfl rfl rfl rfl id
  exact hu.trans <| (State.choose_frameKept hc).trans <| ha.trans (State.openGrant_frameKept r _)

theorem State.reportStuck_frameKept (r : Requester) (s : State) : s.FrameKept (s.reportStuck r) := by
  unfold State.reportStuck
  refine FrameKept.trans ?_ (State.failOp_frameKept r _ _)
  exact .of_same rfl rfl rfl rfl id

theorem State.resumeAfterClear_frameKept (r : Requester) (s : State) : s.FrameKept (s.resumeAfterClear r) := by
  have h : s.FrameKept (s.updDown fun d => { d with clearing := false }) := .of_same rfl rfl rfl rfl id
  unfold State.resumeAfterClear
  dsimp only
  split
  · exact .of_same rfl rfl rfl rfl id
  split
  · exact h.trans (.of_same (by simp) (by simp) (by simp) (by simp) (by simp))
  refine h.trans ?_
  split
  · split <;> exact .of_same rfl rfl rfl rfl id
  · have hb : ∀ u : State, u.FrameKept u.freeBus := fun u => .of_same rfl rfl rfl rfl id
    exact (hb _).trans <| (State.relayLost_frameKept _).trans (State.dropRelay_frameKept _)
  · exact .refl _
  · exact State.sendFrame_frameKept r _

theorem State.catchFrame_frameKept (s : State) : s.FrameKept s.catchFrame := by
  have h : ∀ u : State, u.FrameKept (((u.withdraw .read).withdraw .relay).updRead fun r =>
      { r with phase := if r.phase = .requested then .dead else r.phase }) := fun u => .of_same rfl rfl rfl rfl id
  unfold State.catchFrame
  dsimp only
  split
  · exact s.refuseHeld_frameKept.trans (h _)
  · exact s.killFrame_frameKept.trans (h _)

theorem State.acceptLoad_frameKept (bs : List Byte) (s : State) : s.FrameKept (s.acceptLoad bs) := by
  have hcaught : s.FrameKept (if s.setup.phase = .loading ∨ s.port.frame = none then s else s.catchFrame.dropRelay) := by
    split
    · exact .refl s
    · exact s.catchFrame_frameKept.trans (State.dropRelay_frameKept _)
  exact hcaught.trans (.of_same rfl rfl rfl rfl id)

theorem State.loadRead_frameKept (bs : List Byte) (s : State) : s.FrameKept (s.loadRead bs) := by
  unfold State.loadRead
  split
  · split
    · exact .of_same rfl rfl rfl rfl id
    · split <;> exact .of_same (by simp) (by simp) (by simp) (by simp) (by simp)
  · split
    · exact s.acceptLoad_frameKept bs
    · exact .of_same (by simp) (by simp) (by simp) (by simp) (by simp)

theorem State.afterPoll_frameKept (r : Requester) (p : Poll) (s : State) : s.FrameKept (s.afterPoll r p) := by
  have hb : s.FrameKept s.freeBus := .of_same rfl rfl rfl rfl id
  unfold State.afterPoll
  split
  · exact .of_same rfl rfl rfl rfl id
  · split
    · split <;> exact .of_same (by simp) (by simp) (by simp) (by simp) (by simp)
    · exact s.sendFrame_frameKept _
  · split
    · exact hb.trans (State.slotDone_frameKept _ _)
    · exact s.sendFrame_frameKept _
  · split
    · exact hb
    · exact s.sendFrame_frameKept _
  · split
    · exact .of_same (by simp) (by simp) (by simp) (by simp) (by simp)
    · exact s.sendFrame_frameKept _
  · exact s.sendFrame_frameKept _
  · exact s.sendFrame_frameKept _

theorem State.setStateAt_frameKept (a : DevAddr) (v : DevState) (s : State) : s.FrameKept (s.setStateAt a v) :=
  .of_same (by simp) (by simp) (by simp) (by simp) (by simp)

theorem State.pollAcknowledged_frameKept (r : Requester) (p : Poll) (s : State) :
    s.FrameKept (s.pollAcknowledged r p) := by
  have he : ∀ u : State, u.FrameKept u.endPoll := fun u => .of_same rfl rfl rfl rfl id
  exact (s.setStateAt_frameKept p.addr .ready).trans <| (he _).trans (State.afterPoll_frameKept r p _)

theorem State.expirePoll_frameKept (r : Requester) (p : Poll) (s : State) : s.FrameKept (s.expirePoll r p) :=
  (s.setStateAt_frameKept p.addr .faulted).trans (State.failOp_frameKept r _ _)

theorem State.takeSetup_frameKept (s : State) : s.FrameKept s.takeSetup := by
  unfold State.takeSetup
  split
  · exact (FrameKept.of_same rfl rfl rfl rfl id : s.FrameKept s.requestReload).trans (State.conclude_frameKept _ _)
  · split
    · exact .of_same (by simp) (by simp) (by simp) (by simp) (by simp)
    · exact .refl s

theorem State.takeClosing_frameKept (s : State) : s.FrameKept s.takeClosing := by
  unfold State.takeClosing
  split
  · split
    · exact .refl s
    · refine FrameKept.trans ?_ (State.conclude_frameKept _ _)
      exact .of_same (by simp) (by simp) (by simp) (by simp) (by simp)
  · exact .refl s

/-! ## The end of a relay -/

theorem State.leaveRelay_relay {onOpen : Relay → State → State} (hopen : ∀ r u, u.relay = none → (onOpen r u).relay = none)
    (s : State) : (s.leaveRelay onOpen).relay = none := by
  unfold State.leaveRelay
  split
  · assumption
  · split
    · rfl
    split
    · rfl
    split
    · exact hopen _ _ rfl
    · rfl

theorem State.closeRelay_relay (report : Bool) (s : State) : (s.closeRelay report).relay = none := by
  refine State.leaveRelay_relay (fun r u hu => ?_) s
  dsimp only
  split <;> simpa using hu

theorem State.windUpRelay_relay (s : State) : s.windUpRelay.relay = none :=
  State.leaveRelay_relay (onOpen := fun r s => s.setActivity r.windUp) (fun _ _ hu => hu) s

theorem State.closeRelay_frameKept (report : Bool) (s : State) : s.FrameKept (s.closeRelay report) :=
  .of_same (by simp) (by simp) (by simp) (by simp) fun _ => s.closeRelay_relay report

theorem State.windUpRelay_frameKept (s : State) : s.FrameKept s.windUpRelay :=
  .of_same (by simp) (by simp) (by simp) (by simp) fun _ => s.windUpRelay_relay

theorem State.closePending_frameKept (s : State) : s.FrameKept s.closePending :=
  (s.closeRelay_frameKept false).trans (State.conclude_frameKept _ _)

theorem State.closePending_relay (s : State) : s.closePending.relay = none :=
  (State.conclude_frameKept _ _).relay (s.closeRelay_relay false)

theorem State.expireHoldA_frameKept (f : Frame) (s : State) : s.FrameKept (s.expireHoldA f) := by
  unfold State.expireHoldA
  split
  · exact s.refuseRead_frameKept.trans (.of_same (by simp) (by simp) (by simp) (by simp) (by simp))
  · exact s.refuseHeld_frameKept.trans (State.windUpRelay_frameKept _)
  all_goals exact s.refuseHeld_frameKept

theorem State.fillRelay_frameKept (s : State) : s.FrameKept s.fillRelay :=
  s.releaseHold_frameKept.trans <| (State.sendUp_frameKept _ _).trans <|
    (State.updFrame_frameKept (F := fun f => { f with filling := true }) _ (fun _ => rfl) fun _ => rfl).trans
      (State.windUpRelay_frameKept _)

/-- A stop or an abnormal end leaves no relay (R144, R145). -/
theorem State.endRelay_relay {k : EndKind} (hk : k ≠ .restart) (f : Frame) (s : State) :
    (s.endRelay k f).relay = none := by
  unfold State.endRelay
  split
  · assumption
  · split
    · exact s.windUpRelay_relay
    · exact s.closeRelay_relay _
    · exact absurd rfl hk

theorem State.endFrame_portLaw {k : EndKind} (hk : k ≠ .restart) {s : State} (h : s.portLaw) :
    (s.endFrame k).portLaw := by
  unfold State.endFrame
  split
  · exact h
  · next f _ =>
    have hclear : (((s.endBlock k f).endRelay k f).clearFrame).portLaw :=
      .of_no_relay (State.clearFrame_timerLaw _) (State.endRelay_relay hk f _)
    dsimp only
    split
    · exact FrameKept.portLaw (.of_same (by simp) (by simp) (by simp) (by simp) (by simp)) hclear
    · exact hclear

/-! ## The bytes of a frame -/

/-- In a frame whose header is begun and not yet classed there is no relay. -/
theorem State.portLaw.relay_of_header {s : State} {f : Frame} (h : s.portLaw) (hf : s.port.frame = some f)
    (hc : f.cls = .undecided) (hb : f.headerBytes ≠ 0) : s.relay = none := by
  apply Classical.byContradiction
  intro hr
  obtain ⟨g, hg, hl⟩ := h.2 hr
  obtain rfl : f = g := Option.some.inj (hf.symm.trans hg)
  rcases hl with hl | ⟨_, hl⟩
  · exact absurd (hc.symm.trans hl) nofun
  · exact hb hl

/-- A frame record of any class keeps the timers' law. -/
theorem State.classFrame_timerLaw (b : Byte) (c : FrameClass) (dev : Option Nat) {s : State} (h : s.timerLaw) :
    (s.classFrame b c dev).timerLaw := by
  simpa [State.timerLaw, State.classFrame, State.updFrame, State.updPort] using h

theorem State.classFrame_frame {s : State} {f : Frame} (hf : s.port.frame = some f) (b : Byte) (c : FrameClass)
    (dev : Option Nat) : ∃ g, (s.classFrame b c dev).port.frame = some g ∧ g.cls = c :=
  ⟨_, congrArg (Option.map _) hf, rfl⟩

theorem State.deviceByteRefused_portLaw (b : Byte) {s : State} (h : s.portLaw) (hr : s.relay = none) :
    (s.deviceByteRefused b).portLaw := by
  have hk : (s.classFrame b .undecided none).FrameKept (s.deviceByteRefused b) :=
    (State.answerWith_frameKept _ _).trans (State.killFrame_frameKept _)
  exact hk.portLaw (.of_no_relay (State.classFrame_timerLaw b _ _ h.1) hr)

theorem State.classDeviceByte_portLaw {f : Frame} (b : Byte) {s : State} (h : s.portLaw) (hf : s.port.frame = some f) :
    (s.classDeviceByte b).portLaw := by
  have hp : s.closePending.timerLaw := s.closePending_frameKept.timers h.1
  have hr : s.closePending.relay = none := s.closePending_relay
  obtain ⟨g, hg⟩ : ∃ g, s.closePending.port.frame = some g :=
    Option.ne_none_iff_exists'.1 fun hn => by simp [s.closePending_frameKept.frame_eq_none.1 hn] at hf
  unfold State.classDeviceByte
  split
  · next i _ =>
    split
    · obtain ⟨x, hx, _⟩ := State.classFrame_frame hg b .read (some i)
      refine .of_no_relay ?_ hr
      exact State.decideHold_timerLaw .a (s := s.closePending.classFrame b .read (some i)) (by simp [hx])
    · exact .of_no_relay (State.classFrame_timerLaw b _ _ hp) hr
  · split
    · obtain ⟨x, hx, hc⟩ := State.classFrame_frame hf b .relay none
      exact ⟨State.decideHold_timerLaw .a (s := s.classFrame b .relay none) (by simp [hx]), fun _ => ⟨x, hx, .inl hc⟩⟩
    · obtain ⟨x, hx, hc⟩ := State.classFrame_frame hg b .relay none
      exact ⟨State.decideHold_timerLaw .a (s := s.closePending.classFrame b .relay none) (by simp [hx]),
        fun _ => ⟨x, hx, .inl hc⟩⟩

theorem State.secondAddressByte_timerLaw {f : Frame} (d : Nat) (w : Word) {s : State} (h : s.timerLaw)
    (hf : s.port.frame = some f) : (s.secondAddressByte d w).timerLaw := by
  have hu : ∀ F : Frame → Frame, (s.updFrame F).timerLaw := fun F => by
    simpa [State.timerLaw, State.updFrame, State.updPort] using h
  unfold State.secondAddressByte
  dsimp only
  split
  · split
    · refine FrameKept.timers ?_ (hu fun f =>
        { f with cls := s.writeClass d (s.startAddress d w), start := some (s.startAddress d w), headerBytes := 3 })
      exact .of_same (by simp) (by simp) (by simp) (by simp) (by simp)
    · exact State.decideHold_timerLaw .a (by simp [State.updFrame, hf])
  · refine FrameKept.timers ?_ (hu fun f =>
      { f with cls := s.writeClass d (s.startAddress d w), start := some (s.startAddress d w), headerBytes := 3 })
    exact .of_same (by simp) (by simp) (by simp) (by simp) (by simp)

theorem State.advanceWrite_frameKept (i : Nat) (s : State) : s.FrameKept (s.advanceWrite i) :=
  .of_same (by simp) (by simp) (by simp) (by simp) (by simp)

theorem State.stagedDataByte_frameKept (f : Frame) (b : Byte) (s : State) : s.FrameKept (s.stagedDataByte f b) := by
  have hr : s.FrameKept (s.reserve (f.dev.getD 0) (f.start.getD 0) b).1 :=
    .of_same (by simp) (by simp) (by simp) (by simp) (by simp)
  unfold State.stagedDataByte
  split
  · exact s.refuseData_frameKept
  · dsimp only
    split
    · exact hr.trans <| (State.ackData_frameKept _).trans (State.advanceWrite_frameKept _ _)
    · exact hr.trans (State.refuseData_frameKept _)

theorem State.markDataByte_frameKept (f : Frame) (b : Byte) (s : State) : s.FrameKept (s.markDataByte f b) := by
  unfold State.markDataByte
  split
  · exact s.ackData_frameKept.trans <|
      (State.updFrame_frameKept (F := fun f => { f with markByte := some b }) _ (fun _ => rfl) fun _ => rfl).trans
        (State.advanceWrite_frameKept _ _)
  · exact s.refuseData_frameKept

theorem State.postedDataByte_frameKept (f : Frame) (b : Byte) (s : State) : s.FrameKept (s.postedDataByte f b) := by
  have hc : s.FrameKept (s.collectByte b) := .of_same (by simp) (by simp) (by simp) (by simp) (by simp)
  unfold State.postedDataByte
  split
  · exact s.refuseData_frameKept
  · exact hc.trans <| (State.ackData_frameKept _).trans (State.advanceWrite_frameKept _ _)

/-- A hold decided in a frame keeps its class. -/
theorem State.decideHold_frameKept {f : Frame} (h : HoldPoint) {s : State} (hf : s.port.frame = some f) :
    s.FrameKept (s.decideHold h) :=
  ⟨fun _ => State.decideHold_timerLaw h (by simp [hf]), id, rfl⟩

/-- A relay in place of another changes nothing of the frame. -/
theorem State.updRelay_some_frameKept {r : Relay} (r' : Relay) {s : State} (hr : s.relay = some r) :
    s.FrameKept (s.updRelay fun _ => some r') :=
  .of_same rfl rfl rfl rfl fun h => absurd (hr.symm.trans h) nofun

theorem State.relayDeviceAcked_frameKept {f : Frame} {r : Relay} {s : State} (hf : s.port.frame = some f)
    (hr : s.relay = some r) : s.FrameKept (s.relayDeviceAcked r) := by
  have h : s.FrameKept (s.releaseHold.answerWith true) :=
    s.releaseHold_frameKept.trans (State.answerWith_frameKept _ _)
  unfold State.relayDeviceAcked
  dsimp only
  split
  · exact h.trans (State.updRelay_some_frameKept _ (by simpa using hr))
  · exact h.trans <| (State.decideHold_frameKept (f := f) .b (by simpa using hf)).trans
      (State.updRelay_some_frameKept _ (by simpa using hr))

theorem State.relayByteAcked_frameKept {r : Relay} {s : State} (hr : s.relay = some r) :
    s.FrameKept (s.relayByteAcked r) := by
  have h := s.releaseHold_frameKept.trans <| (State.ackData_frameKept _).trans
    (State.updRelay_some_frameKept { r with stage := .opn, home := r.home.map fun h => { h with byteRelayed := true } }
      (by simpa using hr))
  unfold State.relayByteAcked
  dsimp only
  split
  · exact h.trans (State.advanceWrite_frameKept _ _)
  · exact h

theorem State.relayByteRefused_frameKept {r : Relay} {s : State} (hr : s.relay = some r) :
    s.FrameKept (s.relayByteRefused r) :=
  s.releaseHold_frameKept.trans <| (State.refuseData_frameKept _).trans
    (State.updRelay_some_frameKept _ (by simpa using hr))

theorem State.passByte_frameKept (b : Byte) (s : State) : s.FrameKept (s.passByte b) := by
  have h : s.FrameKept (if s.readsControl then s.takeSnapshot else s) := by
    split
    · exact .of_same rfl rfl rfl rfl id
    · exact .refl s
  exact h.trans <| (State.releaseHold_frameKept _).trans (.of_same rfl rfl rfl rfl id)

/-! ## Events -/

theorem Event.portLaw {s t : State} (h : s.portLaw) (he : Event s t) : t.portLaw := by
  cases he with
  | frameBegins _ => exact s.beginFrame_portLaw
  | frameRestarts k => exact State.beginFrame_portLaw _
  | frameEnds k hk => exact (State.conclude_frameKept _ _).portLaw (State.endFrame_portLaw hk h)
  | holdAExpires f _ _ => exact ((s.expireHoldA_frameKept f).trans (State.conclude_frameKept _ _)).portLaw h
  | readFills => exact (s.fillRead_frameKept.trans (State.conclude_frameKept _ _)).portLaw h
  | relayFills => exact (s.fillRelay_frameKept.trans (State.conclude_frameKept _ _)).portLaw h
  | deviceByteRefused b =>
    exact State.deviceByteRefused_portLaw b (s.closePending_frameKept.portLaw h) s.closePending_relay
  | deviceByteClassed f b hf _ =>
    exact (State.conclude_frameKept _ _).portLaw (State.classDeviceByte_portLaw b h hf)
  | firstAddressByte f b hf hc hb =>
    refine .of_no_relay ?_ (by simpa using h.relay_of_header hf hc (by omega))
    simpa [State.timerLaw, State.firstAddressByte, State.updFrame, State.updPort, State.answerWith] using h.1
  | secondAddressByte f d w hf hc hb _ =>
    exact .of_no_relay (State.secondAddressByte_timerLaw d w h.1 hf)
      (by simpa using h.relay_of_header hf hc (by omega))
  | dataRefused => exact s.refuseData_frameKept.portLaw h
  | relayByte f b hf => exact ((State.decideHold_frameKept .a hf).trans (State.updRelay_map_frameKept _ _)).portLaw h
  | homeRelayBegins f b a hf hc =>
    refine (State.conclude_frameKept _ _).portLaw ⟨?_, fun _ => ⟨f, by simpa using hf, .inl hc⟩⟩
    exact State.decideHold_timerLaw .a (by simp [hf])
  | stagedByte f b _ => exact (s.stagedDataByte_frameKept f b).portLaw h
  | markByte f b _ => exact (s.markDataByte_frameKept f b).portLaw h
  | postedByte f b _ => exact (s.postedDataByte_frameKept f b).portLaw h
  | readAcked f hf =>
    refine State.FrameKept.portLaw ?_ h
    have ha : s.FrameKept s.advanceRead := .of_same rfl rfl rfl rfl id
    exact ha.trans <| (State.decideHold_frameKept (f := f) .b (by simpa using hf)).trans (.of_same rfl rfl rfl rfl id)
  | relayAcked f hf =>
    exact ((State.decideHold_frameKept .b hf).trans (State.updRelay_map_frameKept _ _)).portLaw h
  | relayNaked => exact (s.updRelay_map_frameKept _).portLaw h
  | markActs v _ =>
    refine ((State.conclude_frameKept _ _).portLaw (State.FrameKept.portLaw ?_ h))
    exact .of_same (by simp) (by simp) (by simp) (by simp) (by simp)
  | pollAcknowledged r p _ => exact ((s.pollAcknowledged_frameKept r p).trans (State.conclude_frameKept _ _)).portLaw h
  | pollExpires r p _ => exact ((s.expirePoll_frameKept r p).trans (State.conclude_frameKept _ _)).portLaw h
  | setupReadDone bs _ =>
    have hb : s.FrameKept s.freeBus := .of_same rfl rfl rfl rfl id
    exact (hb.trans <| (State.loadRead_frameKept bs _).trans (State.conclude_frameKept _ _)).portLaw h
  | readRefused | verifyDone | scanHeaderDone | scanRecordDone =>
    refine ((State.conclude_frameKept _ _).portLaw (State.FrameKept.portLaw ?_ h))
    exact .of_same (by simp) (by simp) (by simp) (by simp) (by simp)
  | streamOpens hh =>
    have hf : s.port.frame ≠ none := fun hf => by simp [h.1.2.2 hf] at hh
    obtain ⟨f, hf⟩ := Option.ne_none_iff_exists'.1 hf
    have hr : s.FrameKept ((s.releaseHold.answerWith true).updRead fun r => { r with phase := .streaming }) :=
      s.releaseHold_frameKept.trans (.of_same rfl rfl rfl rfl id)
    exact (hr.trans <| (State.decideHold_frameKept (f := f) .b (by simpa using hf)).trans
      (.of_same rfl rfl rfl rfl id)).portLaw h
  | streamRefused => exact (s.refuseRead_frameKept.trans (.of_same rfl rfl rfl rfl id)).portLaw h
  | bytePassed b => exact (s.passByte_frameKept b).portLaw h
  | relayDeviceAcked f r hf hr => exact (State.relayDeviceAcked_frameKept hf hr).portLaw h
  | relayDeviceRefused =>
    exact (s.refuseHeld_frameKept.trans <| (State.dropRelay_frameKept _).trans (.of_same rfl rfl rfl rfl id)).portLaw h
  | relayByteAcked f r _ hr => exact (State.relayByteAcked_frameKept hr).portLaw h
  | relayByteRefused f r _ hr => exact (State.relayByteRefused_frameKept hr).portLaw h
  | relayBytePassed f r b _ hr =>
    exact (s.releaseHold_frameKept.trans <| (State.sendUp_frameKept _ _).trans
      (State.updRelay_some_frameKept _ (by simpa using hr))).portLaw h
  | stuckReported r _ => exact ((s.reportStuck_frameKept r).trans (State.conclude_frameKept _ _)).portLaw h
  | clearSucceeds r _ =>
    have hc : s.FrameKept s.countClear := .of_same rfl rfl rfl rfl id
    exact (hc.trans <| (State.resumeAfterClear_frameKept r _).trans (State.conclude_frameKept _ _)).portLaw h
  | clearFails r _ =>
    have hc : s.FrameKept s.countClear := .of_same rfl rfl rfl rfl id
    exact (hc.trans <| (State.reportStuck_frameKept r _).trans (State.conclude_frameKept _ _)).portLaw h
  | _ => exact State.FrameKept.portLaw (.of_same (by simp) (by simp) (by simp) (by simp) (by simp)) h

theorem State.reset_timerLaw : State.reset.timerLaw := by
  simp [State.timerLaw, State.reset, Port.reset]

/-- Settles O59: operations within a frame keep its class and the timers, and frames and relays begin and end
together. -/
theorem stepKeepsThePortLaws : Obligations.StepKeepsThePortLaws := by
  intro s t ht hr h
  refine step_keeps (P := State.portLaw) ?_ ?_ ?_ ⟨ht, hr⟩ h
  · intro c u v hu hc
    refine exec_keeps (P := State.portLaw) ?_ ?_ (fun w => w.takeSetup_frameKept.portLaw)
      (fun w => w.takeClosing_frameKept.portLaw) (fun _ _ h => Event.portLaw h) hu hc
    · exact fun w _ => .of_no_relay State.reset_timerLaw rfl
    · exact fun ha sb w _ => (State.conclude_frameKept _ _).portLaw (.of_no_relay State.reset_timerLaw rfl)
  · exact fun u cs hu => State.FrameKept.portLaw (.of_same rfl rfl rfl rfl id) hu
  · intro u hu
    obtain ⟨ht, hr⟩ := u.takeClosing_frameKept.portLaw hu
    refine ⟨State.holdClock_timerLaw ht, fun hn => ?_⟩
    obtain ⟨f, hf, hc⟩ := hr (by simpa [State.elapse] using hn)
    exact ⟨f, by simpa [State.elapse] using hf, hc⟩

end Sys2Proof.Machine
end

section
/-! PROOF. The staging store (R22, R44): what is held only shrinks but at a met reservation, at the load group claims
and at a SEAL, each of which is tested first; and a claim on the image is lawful as its page grows (O57). -/

namespace Sys2Proof.Machine

/-- Of bytes, descriptors, sealed groups and the image the one state holds at most what the other holds. -/
structure State.StoreShrinks (s t : State) : Prop where
  bytes : t.heldBytes ≤ s.heldBytes
  descriptors : t.heldDescriptors ≤ s.heldDescriptors
  sealedLength : t.queue.sealed.length ≤ s.queue.sealed.length
  image : ∀ i, t.store.image = some i → s.store.image = some i

namespace State.StoreShrinks

theorem refl (s : State) : s.StoreShrinks s := ⟨Nat.le_refl _, Nat.le_refl _, Nat.le_refl _, fun _ => id⟩

theorem trans {s t u : State} (h : s.StoreShrinks t) (h' : t.StoreShrinks u) : s.StoreShrinks u :=
  ⟨Nat.le_trans h'.bytes h.bytes, Nat.le_trans h'.descriptors h.descriptors, Nat.le_trans h'.sealedLength h.sealedLength,
    fun i hi => h.image i (h'.image i hi)⟩

/-- What leaves the groups and the image alone. -/
theorem of_same {s t : State} (ho : t.queue.openGroup = s.queue.openGroup) (hs : t.queue.sealed = s.queue.sealed)
    (hi : t.store.image = s.store.image) : s.StoreShrinks t := by
  constructor <;> simp [State.heldBytes, State.heldDescriptors, State.groups, ho, hs, hi]

theorem storeLaw {s t : State} (h : s.StoreShrinks t) (hs : s.storeLaw) : t.storeLaw := by
  obtain ⟨hb, hd, hl, hi⟩ := hs
  exact ⟨Nat.le_trans h.bytes hb, Nat.le_trans h.descriptors hd, Nat.le_trans h.sealedLength hl,
    fun i hi' => hi i (h.image i hi')⟩

end State.StoreShrinks

/-! ## The groups -/

theorem Group.byteTotal_eq {g g' : Group} (h : g'.entries = g.entries) : g'.byteTotal = g.byteTotal := by
  rw [Group.byteTotal, h]; rfl

theorem State.updCurrent_storeShrinks {F : Group → Group} (hF : ∀ g, (F g).entries = g.entries) (s : State) :
    s.StoreShrinks (s.updCurrent F) := by
  have hsum : ∀ n : Group → Nat, (∀ g, n (F g) = n g) →
      ((s.updCurrent F).queue.sealed.map n).sum = (s.queue.sealed.map n).sum := by
    intro n hn
    simp only [State.updCurrent, State.updQueue_queue]
    split
    · next hs => rw [hs]
    · next hs => simp [hs, hn]
  refine ⟨?_, ?_, ?_, fun _ => id⟩
  · have := hsum Group.byteTotal fun g => Group.byteTotal_eq (hF g)
    simp [State.heldBytes, State.groups, this]
  · have := hsum (fun g => g.entries.length) fun g => by rw [hF]
    simp [State.heldDescriptors, State.groups, this]
  · refine Nat.le_of_eq ?_
    simp only [State.updCurrent, State.updQueue_queue]
    split
    · next hs => rw [hs]
    · next hs => rw [hs]; rfl

theorem State.emptyOpen_storeShrinks (s : State) : s.StoreShrinks (s.updOpen Group.emptied) := by
  refine ⟨?_, ?_, Nat.le_refl _, fun _ => id⟩
  all_goals
    cases hg : s.queue.openGroup <;>
      simp [State.heldBytes, State.heldDescriptors, State.groups, State.updOpen, State.updQueue, hg, Group.emptied,
        Group.byteTotal, entriesBytes]

theorem State.releaseImage_storeShrinks (s : State) : s.StoreShrinks s.releaseImage := by
  refine ⟨?_, ?_, Nat.le_refl _, nofun⟩
  all_goals simp [State.heldBytes, State.heldDescriptors, State.groups, State.releaseImage, State.updStore]

theorem State.loseOpenGroup_storeShrinks (s : State) : s.StoreShrinks s.loseOpenGroup :=
  s.releaseImage_storeShrinks.trans <| (State.emptyOpen_storeShrinks _).trans (.of_same rfl rfl rfl)

/-- An OPEN group that comes or goes empty holds nothing. -/
theorem State.StoreShrinks.of_open_empty {s t : State} (ho : ∀ g, t.queue.openGroup = some g → g.entries = [])
    (hs : t.queue.sealed = s.queue.sealed) (hi : t.store.image = s.store.image) : s.StoreShrinks t := by
  refine ⟨?_, ?_, Nat.le_of_eq (by rw [hs]), fun i h => hi ▸ h⟩
  all_goals
    cases hg : t.queue.openGroup with
    | none => simp [State.heldBytes, State.heldDescriptors, State.groups, hs, hi, hg]
    | some g =>
      have hempty := ho g hg
      simp [State.heldBytes, State.heldDescriptors, State.groups, hs, hi, hg, Group.byteTotal, entriesBytes, hempty]

theorem State.fallback_storeShrinks (r : Reject) (s : State) : s.StoreShrinks (s.fallback r) :=
  .of_open_empty nofun (by simp) (by simp)

theorem State.acceptLoad_storeShrinks (bs : List Byte) (s : State) : s.StoreShrinks (s.acceptLoad bs) := by
  refine .of_open_empty (fun g hg => ?_) (by simp) (by simp)
  have : (s.acceptLoad bs).queue.openGroup = some Group.empty := rfl
  rw [this] at hg
  cases hg; rfl

theorem State.removeRetired_storeShrinks (g : Group) (s : State) : s.StoreShrinks (s.removeRetired g) := by
  have hq : (s.removeRetired g).queue.sealed = s.queue.sealed.tail := rfl
  refine ⟨?_, ?_, by simp [hq], fun i h => by simpa using h⟩
  all_goals
    cases hs : s.queue.sealed <;> simp [State.heldBytes, State.heldDescriptors, State.groups, hq, hs]

/-! ## The engine -/

theorem State.beginPass_storeShrinks (s : State) : s.StoreShrinks s.beginPass := by
  unfold State.beginPass
  split
  · exact .refl s
  · next g _ =>
    have hg : s.StoreShrinks (s.updCurrent (Group.passBegun (s.placementFor g.entries))) :=
      s.updCurrent_storeShrinks (by intro; rfl)
    exact hg.trans (.of_same (by simp) (by simp) (by simp))

theorem State.startGroup_storeShrinks (s : State) : s.StoreShrinks s.startGroup := by
  unfold State.startGroup
  split
  · split
    · exact .refl s
    · split
      · exact .of_same (by simp) (by simp) (by simp)
      · exact s.beginPass_storeShrinks
  · exact .refl s

theorem State.takeNext_storeShrinks (n : NextStep) (s : State) : s.StoreShrinks (s.takeNext n) := by
  cases n with
  | idle => exact (StoreShrinks.of_same (by simp) (by simp) (by simp)).trans (State.startGroup_storeShrinks _)
  | freshPass => exact s.beginPass_storeShrinks
  | step p k => exact .of_same (by simp [State.takeNext]) (by simp [State.takeNext]) (by simp)

theorem State.atBoundary_storeShrinks (n : NextStep) (s : State) : s.StoreShrinks (s.atBoundary n) := by
  unfold State.atBoundary
  split
  · exact .of_same (by simp) (by simp) (by simp)
  · exact s.takeNext_storeShrinks n

/-- The current group, its entries kept, goes on at a step boundary. -/
theorem State.updCurrent_atBoundary_storeShrinks {F : Group → Group} (hF : ∀ g, (F g).entries = g.entries)
    (n : NextStep) (s : State) : s.StoreShrinks ((s.updCurrent F).atBoundary n) :=
  (s.updCurrent_storeShrinks hF).trans (State.atBoundary_storeShrinks n _)

theorem State.verifyDone_storeShrinks (bs : List Byte) (s : State) : s.StoreShrinks (s.verifyDone bs) := by
  unfold State.verifyDone
  split
  · exact .refl s
  · split
    · exact s.updCurrent_atBoundary_storeShrinks (by intro; rfl) _
    · split
      · exact s.updCurrent_atBoundary_storeShrinks (by intro; rfl) _
      · exact .of_same (by simp) (by simp) (by simp)

theorem State.leaveHalted_storeShrinks (s : State) : s.StoreShrinks s.leaveHalted := by
  unfold State.leaveHalted
  dsimp only
  refine StoreShrinks.trans ?_ (State.atBoundary_storeShrinks _ _)
  split
  · refine .trans ?_ (State.updCurrent_storeShrinks (by intro; rfl) _)
    exact .of_same rfl rfl rfl
  · exact .of_same rfl rfl rfl

/-! ## The claims -/

/-- A met claim on the pool and the descriptors is within what is free. -/
theorem State.takeClaimList_storeLaw (gs : List Group) {s : State} (h : s.storeLaw) :
    (s.takeClaimList gs).storeLaw := by
  induction gs generalizing s with
  | nil => exact (StoreShrinks.of_same rfl rfl rfl).storeLaw h
  | cons g gs ih =>
    unfold State.takeClaimList
    split
    · next hfits =>
      apply ih
      obtain ⟨hb, hd, hl, hi⟩ := h
      obtain ⟨hgb, hgd, hgl⟩ := of_decide_eq_true hfits
      have hbytes : (s.updQueue fun q => { q with sealed := q.sealed ++ [g] }).heldBytes = s.heldBytes + g.byteTotal := by
        simp [State.heldBytes, State.groups, State.updQueue]; omega
      have hdescr : (s.updQueue fun q => { q with sealed := q.sealed ++ [g] }).heldDescriptors
          = s.heldDescriptors + g.entries.length := by
        simp [State.heldDescriptors, State.groups, State.updQueue]; omega
      refine ⟨?_, ?_, ?_, hi⟩
      · rw [hbytes]; unfold State.freePool at hgb; omega
      · rw [hdescr]; unfold State.freeDescriptors at hgd; omega
      · simpa [State.updQueue] using Nat.succ_le_of_lt hgl
    · exact (StoreShrinks.of_same rfl rfl rfl).storeLaw h

theorem State.takeClaims_storeLaw {s : State} (h : s.storeLaw) : s.takeClaims.storeLaw :=
  State.takeClaimList_storeLaw _ h

theorem State.retire_storeLaw {s : State} (h : s.storeLaw) : s.retire.storeLaw := by
  unfold State.retire
  split
  · exact h
  · next g _ =>
    have hclaims := State.takeClaims_storeLaw ((s.removeRetired_storeShrinks g).storeLaw h)
    have hnext := (State.atBoundary_storeShrinks .idle _).storeLaw hclaims
    exact (StoreShrinks.of_same (by simp) (by simp) (by simp)).storeLaw hnext

theorem State.writeStepDone_storeLaw {s : State} (h : s.storeLaw) : s.writeStepDone.storeLaw := by
  unfold State.writeStepDone
  dsimp only
  split
  · split
    · exact (s.atBoundary_storeShrinks _).storeLaw h
    · exact (s.updCurrent_atBoundary_storeShrinks (by intro; rfl) _).storeLaw h
  · exact (s.updCurrent_atBoundary_storeShrinks (by intro; rfl) _).storeLaw h
  · have hp : s.StoreShrinks (s.updCurrent fun g => { g with progress := s.engine.pointer + 1 }) :=
      s.updCurrent_storeShrinks (by intro; rfl)
    split
    · exact (hp.trans (State.atBoundary_storeShrinks _ _)).storeLaw h
    · exact (hp.trans (State.updCurrent_atBoundary_storeShrinks (by intro; rfl) _ _)).storeLaw h
  · exact State.retire_storeLaw h
  · exact h

/-! ## Loads, the scan and failures -/

theorem State.loadFailed_storeShrinks (r : Reject) (s : State) : s.StoreShrinks (s.loadFailed r) := by
  unfold State.loadFailed
  split
  · split <;> exact .of_same (by simp) (by simp) (by simp)
  · split
    · exact s.fallback_storeShrinks r
    · exact .of_same (by simp) (by simp) (by simp)

theorem State.loadRead_storeShrinks (bs : List Byte) (s : State) : s.StoreShrinks (s.loadRead bs) := by
  unfold State.loadRead
  split
  · split
    · exact .of_same (by simp) (by simp) (by simp)
    · split <;> exact .of_same (by simp) (by simp) (by simp)
  · split
    · exact s.acceptLoad_storeShrinks bs
    · exact s.loadFailed_storeShrinks _

theorem State.setupReadRefused_storeShrinks (s : State) : s.StoreShrinks s.setupReadRefused := by
  unfold State.setupReadRefused
  dsimp only
  split
  · split <;> exact .of_same rfl rfl rfl
  · refine .trans ?_ (State.loadFailed_storeShrinks _ _)
    exact .of_same rfl rfl rfl

theorem State.scanReadRefused_storeShrinks (s : State) : s.StoreShrinks s.scanReadRefused := by
  unfold State.scanReadRefused
  split
  · exact .refl s
  · split
    · exact .of_same rfl rfl rfl
    · exact s.fallback_storeShrinks _

theorem State.readRefused_storeShrinks (r : Requester) (s : State) : s.StoreShrinks (s.readRefused r) := by
  unfold State.readRefused
  cases r with
  | engine => exact .of_same (by simp) (by simp) (by simp)
  | setupRead => exact s.setupReadRefused_storeShrinks
  | scanRead => exact s.scanReadRefused_storeShrinks
  | posted i | read | relay | homePoll => exact .refl s

theorem State.finishScan_storeLaw (cs : List Candidate) {s : State} (h : s.storeLaw) : (s.finishScan cs).storeLaw := by
  unfold State.finishScan
  split
  · exact (s.fallback_storeShrinks _).storeLaw h
  · dsimp only
    split
    · exact (StoreShrinks.of_same (by simp) (by simp) (by simp)).storeLaw h
    · refine (State.startGroup_storeShrinks _).storeLaw (State.takeClaims_storeLaw ?_)
      exact (StoreShrinks.of_same rfl rfl rfl).storeLaw h

theorem State.scanRecords_storeLaw (cs : List Candidate) {s : State} (h : s.storeLaw) : (s.scanRecords cs).storeLaw := by
  unfold State.scanRecords
  split
  · exact (StoreShrinks.of_same rfl rfl rfl).storeLaw h
  · exact State.finishScan_storeLaw cs h

theorem State.scanHeader_storeLaw (o : Nat) (cs : List Candidate) (bs : List Byte) {s : State} (h : s.storeLaw) :
    (s.scanHeader o cs bs).storeLaw := by
  unfold State.scanHeader
  dsimp only
  split
  · exact (StoreShrinks.of_same rfl rfl rfl).storeLaw h
  · exact State.scanRecords_storeLaw _ h

theorem State.failOp_storeShrinks (r : Requester) (c : OpFailure) (s : State) : s.StoreShrinks (s.failOp r c) := by
  have hfree : s.StoreShrinks s.freeBus := .of_same rfl rfl rfl
  unfold State.failOp
  cases r with
  | posted i | read | relay | engine => exact .of_same (by simp) (by simp) (by simp)
  | setupRead => exact hfree.trans (State.loadFailed_storeShrinks _ _)
  | scanRead | homePoll => exact hfree.trans (State.fallback_storeShrinks _ _)

/-! ## The grants -/

theorem State.openGrant_storeShrinks (r : Requester) (s : State) : s.StoreShrinks (s.openGrant r) := by
  have hgranted : s.StoreShrinks (s.granted r) := .of_same (by simp) (by simp) (by simp)
  unfold State.openGrant
  split
  · exact .of_same rfl rfl rfl
  · dsimp only
    refine hgranted.trans ?_
    split
    · exact .of_same rfl rfl rfl
    · split
      · exact .of_same (by simp) (by simp) (by simp)
      · exact .of_same rfl rfl rfl
      · exact State.failOp_storeShrinks _ _ _

theorem State.conclude_storeShrinks (s0 s : State) : s.StoreShrinks (s0.conclude s) := by
  refine State.conclude_induct (P := s.StoreShrinks) (fun u v r raced hu _ hc => ?_) s0 s (.refl s)
  obtain ⟨-, -, hs, hq, -⟩ := State.choose_leaves raced r v u hc
  refine hu.trans <| StoreShrinks.trans ?_ (State.openGrant_storeShrinks r _)
  exact .of_same (by simp [hq]) (by simp [hq]) (by simp [hs])

theorem State.takeClosing_storeShrinks (s : State) : s.StoreShrinks s.takeClosing := by
  unfold State.takeClosing
  split
  · split
    · exact .refl s
    · refine .trans ?_ (State.conclude_storeShrinks _ _)
      exact .of_same (by simp) (by simp) (by simp)
  · exact .refl s

theorem State.takeSetup_storeShrinks (s : State) : s.StoreShrinks s.takeSetup := by
  unfold State.takeSetup
  split
  · unfold State.takeReloadRequest
    refine .trans ?_ (State.conclude_storeShrinks _ _)
    exact .of_same rfl rfl rfl
  · split
    · exact .of_same (by simp) (by simp) (by simp)
    · exact .refl s

/-! ## The image -/

theorem PageImage.beforeStart_eq_nil_iff (p : PageImage) : p.beforeStart = [] ↔ ∀ c ∈ p.cells.take p.startOff, c = none := by
  simp [PageImage.beforeStart, List.filterMap_eq_nil_iff]

/-- The image of a frame's first byte (R26). -/
theorem Image.opened_lawful (dev pageSize : Nat) (start : Word) (b : Byte) :
    Image.lawful
      { dev := dev, second := false
        page := (PageImage.opened pageSize start).write (PageImage.opened pageSize start).startOff b } := by
  refine ⟨?_, fun _ => ⟨Nat.le_refl _, ?_⟩⟩
  · rcases Nat.eq_zero_or_pos pageSize with hz | hp
    · left; simp [PageImage.write, PageImage.opened, hz]
    · right; simpa [PageImage.write, PageImage.opened] using Nat.mod_lt _ hp
  · rw [PageImage.beforeStart_eq_nil_iff]
    intro c hc
    simp only [PageImage.write, PageImage.opened] at hc
    rw [List.take_set_of_le (Nat.le_refl _)] at hc
    exact List.eq_of_mem_replicate (List.mem_of_mem_take hc)

/-- While nothing before the start offset is written, a written position 0 is the start itself. -/
theorem PageImage.startOff_of_writtenAt {p : PageImage} (hb : p.beforeStart = []) (hw : p.writtenAt 0 = true) :
    p.startOff = 0 := by
  rw [PageImage.beforeStart_eq_nil_iff] at hb
  apply Classical.byContradiction
  intro hn
  cases hc : p.cells with
  | nil => simp [PageImage.writtenAt, hc] at hw
  | cons c cs =>
    have hnone : c = none := hb c (by
      obtain ⟨k, hk⟩ := Nat.exists_eq_succ_of_ne_zero hn
      simp [hc, hk])
    simp [PageImage.writtenAt, hc, hnone] at hw

/-- A later byte keeps the image lawful: the counter passes the page's end over an unwritten position only with a second
descriptor (R27, R28). -/
theorem Image.stage_lawful {i : Image} (h : i.lawful) (b : Byte) :
    Image.lawful { i with
      page := i.page.stage b
      second := i.second || (decide (i.page.next = 0) && !i.page.writtenAt 0) } := by
  obtain ⟨hc, hs⟩ := h
  refine ⟨?_, fun h2 => ?_⟩
  · rcases hc with hc | hc
    · left; simp [PageImage.stage, PageImage.write, hc]
    · right; simpa [PageImage.stage, PageImage.write, PageImage.next] using Nat.mod_lt _ (by omega)
  · simp only [Bool.or_eq_false_iff, Bool.and_eq_false_iff, decide_eq_false_iff_not, Bool.not_eq_false'] at h2
    obtain ⟨hsecond, hnext⟩ := h2
    obtain ⟨hle, hbefore⟩ := hs hsecond
    have hstart : i.page.startOff ≤ i.page.next := by
      rcases hnext with hnext | hw
      · rcases hc with hc | hc
        · simp [PageImage.next, hc]; omega
        · have : i.page.next = i.page.counter + 1 := by
            unfold PageImage.next at hnext ⊢
            rcases Nat.lt_or_ge (i.page.counter + 1) i.page.cells.length with hlt | hge
            · exact Nat.mod_eq_of_lt hlt
            · have heq : i.page.counter + 1 = i.page.cells.length := Nat.le_antisymm hc hge
              exact absurd (heq ▸ Nat.mod_self _) hnext
          omega
      · rw [PageImage.startOff_of_writtenAt hbefore hw]; exact Nat.zero_le _
    refine ⟨hstart, ?_⟩
    rw [PageImage.beforeStart_eq_nil_iff] at hbefore ⊢
    intro c hcm
    simp only [PageImage.stage, PageImage.write] at hcm
    rw [List.take_set_of_le hstart] at hcm
    exact hbefore c hcm

theorem State.nextImage_lawful (dev : Nat) (start : Word) (b : Byte) {s : State}
    (h : ∀ i, s.store.image = some i → i.lawful) : (s.nextImage dev start b).lawful := by
  unfold State.nextImage
  split
  · exact Image.opened_lawful _ _ _ _
  · exact Image.stage_lawful (h _ ‹_›) b

/-- A reservation that is met finds what the image grows by free (R26 to R29). -/
theorem State.reserve_storeLaw (dev : Nat) (start : Word) (b : Byte) {s : State} (h : s.storeLaw) :
    (s.reserve dev start b).1.storeLaw := by
  unfold State.reserve
  split
  · next hr =>
    obtain ⟨hb, hd, hl, hi⟩ := h
    simp only [State.canReserve, Bool.and_eq_true, decide_eq_true_eq] at hr
    obtain ⟨⟨-, hbytes⟩, hdescr⟩ := hr
    refine ⟨?_, ?_, hl, fun i h => by cases h; exact State.nextImage_lawful _ _ _ hi⟩
    · change (s.groups.map Group.byteTotal).sum + (s.nextImage dev start b).page.written ≤ _
      unfold State.freePool State.imageBytes at hbytes
      unfold State.heldBytes at hb hbytes
      omega
    · change (s.groups.map fun g => g.entries.length).sum + (s.nextImage dev start b).descriptors ≤ _
      unfold State.freeDescriptors State.imageDescriptors at hdescr
      unfold State.heldDescriptors at hd hdescr
      omega
  · exact s.loseOpenGroup_storeShrinks.storeLaw h

theorem State.stagedDataByte_storeLaw (f : Frame) (b : Byte) {s : State} (h : s.storeLaw) :
    (s.stagedDataByte f b).storeLaw := by
  unfold State.stagedDataByte
  split
  · exact (StoreShrinks.of_same rfl rfl rfl).storeLaw h
  · have hr := State.reserve_storeLaw (f.dev.getD 0) (f.start.getD 0) b h
    dsimp only
    split
    · exact (StoreShrinks.of_same (by simp) (by simp) (by simp)).storeLaw hr
    · exact (StoreShrinks.of_same rfl rfl rfl).storeLaw hr

/-- The runs of an image taken into a group add no more than their bytes, and an entry each (R33). -/
theorem Group.takeRuns_sums (st : Straps) (d : Nat) (g : Group) (rs : List Run) :
    (rs.foldl (Group.takeRun st d) g).entries.length ≤ g.entries.length + rs.length
      ∧ (rs.foldl (Group.takeRun st d) g).byteTotal ≤ g.byteTotal + (rs.map fun r => r.data.length).sum := by
  induction rs generalizing g with
  | nil => simp
  | cons r rs ih =>
    obtain ⟨hl, hb⟩ := ih (Group.takeRun st d g r)
    obtain ⟨hl', hb'⟩ := takeRun_sums st d g r
    simp only [List.foldl_cons, List.length_cons, List.map_cons, List.sum_cons]
    omega

/-- A finalise claim takes into the OPEN group no more than the image holds (R32, R33). -/
theorem State.finalise_storeShrinks {s : State} (h : s.storeLaw) : s.StoreShrinks s.finalise := by
  unfold State.finalise
  split
  · exact .refl s
  · next i hi =>
    obtain ⟨-, -, -, hlaw⟩ := h
    have hruns := runs_bytes i.page
    have hcount := runs_count i (hlaw i hi)
    refine ⟨?_, ?_, Nat.le_refl _, nofun⟩
    all_goals
      cases hg : s.queue.openGroup with
      | none =>
        simp [State.heldBytes, State.heldDescriptors, State.groups, State.updOpen, State.updQueue, State.releaseImage, State.updStore, hg]
      | some g =>
        have hsums := Group.takeRuns_sums s.setup.straps i.dev g i.page.runs
        simp [State.heldBytes, State.heldDescriptors, State.groups, State.updOpen, State.updQueue, State.releaseImage, State.updStore, hg, hi]
        omega

/-! ## Marks and the ends of frames -/

/-- A SEAL finds a place among the sealed groups (R45), and the group sealed holds what it held. -/
theorem markSeal_storeLaw (tag : Byte) {s : State} (h : s.storeLaw) : (markSeal tag s).1.storeLaw := by
  unfold markSeal
  split
  · exact h
  · exact h
  · next g hg =>
    split
    · exact h
    · split
      · exact h
      · split
        · exact h
        · next hfull =>
          refine (State.startGroup_storeShrinks _).storeLaw ?_
          obtain ⟨hb, hd, hl, hi⟩ := h
          refine ⟨?_, ?_, ?_, hi⟩
          · simp [State.heldBytes, State.groups, hg, Group.byteTotal, Group.sealedWith, Group.empty, entriesBytes, State.updQueue, State.updJournal] at hb ⊢
            omega
          · simp [State.heldDescriptors, State.groups, hg, Group.sealedWith, Group.empty, State.updQueue, State.updJournal] at hd ⊢
            omega
          · simpa [State.updQueue, State.updJournal] using Nat.succ_le_of_lt (Nat.lt_of_not_le hfull)

theorem markEffect_storeLaw (v : Byte) {s : State} (h : s.storeLaw) : (markEffect v s).1.storeLaw := by
  unfold markEffect
  split
  · exact (s.emptyOpen_storeShrinks.trans (.of_same rfl rfl rfl)).storeLaw h
  split
  · exact markSeal_storeLaw v h
  split
  · unfold markRetry
    dsimp only
    split
    · refine (State.leaveHalted_storeShrinks _).storeLaw ?_
      exact (State.StoreShrinks.of_same rfl rfl rfl).storeLaw h
    · exact (State.StoreShrinks.of_same rfl rfl rfl).storeLaw h
  split
  · unfold markPause
    dsimp only
    split <;> exact (State.StoreShrinks.of_same rfl rfl rfl).storeLaw h
  split
  · unfold markResume
    dsimp only
    split
    · refine (State.takeNext_storeShrinks _ _).storeLaw ?_
      exact (State.StoreShrinks.of_same rfl rfl rfl).storeLaw h
    · split
      · exact (State.StoreShrinks.of_same rfl rfl rfl).storeLaw h
      · exact h
  split
  · exact (State.StoreShrinks.of_same rfl rfl rfl).storeLaw h
  · exact h

theorem State.actOnMark_storeLaw (v : Byte) {s : State} (h : s.storeLaw) : (s.actOnMark v).storeLaw :=
  (StoreShrinks.of_same rfl rfl rfl).storeLaw (markEffect_storeLaw v h)

theorem State.endBlock_storeShrinks (k : EndKind) (f : Frame) {s : State} (h : s.storeLaw) :
    s.StoreShrinks (s.endBlock k f) := by
  unfold State.endBlock
  split
  · split
    · exact State.finalise_storeShrinks h
    · exact s.releaseImage_storeShrinks
  all_goals exact .of_same (by simp) (by simp) (by simp)

theorem State.endFrame_storeLaw (k : EndKind) {s : State} (h : s.storeLaw) : (s.endFrame k).storeLaw := by
  unfold State.endFrame
  split
  · exact h
  · next f _ =>
    have hb : (((s.endBlock k f).endRelay k f).clearFrame).storeLaw :=
      (StoreShrinks.of_same (by simp) (by simp) (by simp)).storeLaw ((State.endBlock_storeShrinks k f h).storeLaw h)
    dsimp only
    split
    · exact State.actOnMark_storeLaw _ hb
    · exact hb

theorem State.concludeFrame_storeLaw (k : EndKind) {s : State} (h : s.storeLaw) : (s.concludeFrame k).storeLaw :=
  (State.conclude_storeShrinks _ _).storeLaw (State.endFrame_storeLaw k h)

/-! ## Every step -/

theorem State.afterPoll_storeLaw (r : Requester) (p : Poll) {s : State} (h : s.storeLaw) : (s.afterPoll r p).storeLaw := by
  have hfree : s.freeBus.storeLaw := (StoreShrinks.of_same rfl rfl rfl).storeLaw h
  unfold State.afterPoll
  cases r with
  | engine =>
    dsimp only
    split
    · split
      · exact (StoreShrinks.of_same (by simp) (by simp) (by simp)).storeLaw h
      · exact State.writeStepDone_storeLaw hfree
    · exact (StoreShrinks.of_same rfl rfl rfl).storeLaw h
  | homePoll | posted i | read | relay | setupRead | scanRead =>
    dsimp only
    try split
    all_goals exact (StoreShrinks.of_same (by simp) (by simp) (by simp)).storeLaw h

theorem State.conclude_storeLaw (s0 : State) {s : State} (h : s.storeLaw) : (s0.conclude s).storeLaw :=
  (State.conclude_storeShrinks s0 s).storeLaw h

/-- What leaves the groups and the image alone keeps the law. -/
theorem State.storeLaw.of_same {s t : State} (h : s.storeLaw) (ho : t.queue.openGroup = s.queue.openGroup)
    (hs : t.queue.sealed = s.queue.sealed) (hi : t.store.image = s.store.image) : t.storeLaw :=
  (State.StoreShrinks.of_same ho hs hi).storeLaw h

theorem State.closePending_storeLaw {s : State} (h : s.storeLaw) : s.closePending.storeLaw :=
  State.conclude_storeLaw s (h.of_same (by simp) (by simp) (by simp))

theorem State.classDeviceByte_storeLaw (b : Byte) {s : State} (h : s.storeLaw) : (s.classDeviceByte b).storeLaw := by
  unfold State.classDeviceByte
  split
  · split <;> exact (State.closePending_storeLaw h).of_same rfl rfl rfl
  · split
    · exact h.of_same rfl rfl rfl
    · exact (State.closePending_storeLaw h).of_same rfl rfl rfl

theorem Event.storeLaw {s t : State} (he : Event s t) (h : s.storeLaw) : t.storeLaw := by
  have hfree : s.freeBus.storeLaw := h.of_same rfl rfl rfl
  cases he with
  | frameRestarts k => exact (State.concludeFrame_storeLaw k h).of_same rfl rfl rfl
  | frameEnds k => exact State.concludeFrame_storeLaw k h
  | deviceByteRefused b => exact (State.closePending_storeLaw h).of_same rfl rfl rfl
  | deviceByteClassed f b => exact State.conclude_storeLaw _ (State.classDeviceByte_storeLaw b h)
  | stagedByte f b => exact State.stagedDataByte_storeLaw f b h
  | markActs v => exact State.conclude_storeLaw s (State.actOnMark_storeLaw v h)
  | pollAcknowledged r p =>
    exact State.conclude_storeLaw s <| State.afterPoll_storeLaw r p <| h.of_same (by simp) (by simp) (by simp)
  | pollExpires r p =>
    exact State.conclude_storeLaw s <| (State.failOp_storeShrinks r _ _).storeLaw <|
      h.of_same (by simp) (by simp) (by simp)
  | readRefused r => exact State.conclude_storeLaw s <| (State.readRefused_storeShrinks r _).storeLaw hfree
  | verifyDone bs => exact State.conclude_storeLaw s <| (State.verifyDone_storeShrinks bs _).storeLaw hfree
  | setupReadDone bs => exact State.conclude_storeLaw s <| (State.loadRead_storeShrinks bs _).storeLaw hfree
  | scanHeaderDone o cs bs => exact State.conclude_storeLaw s <| State.scanHeader_storeLaw o cs bs hfree
  | scanRecordDone o cs bs => exact State.conclude_storeLaw s <| State.scanRecords_storeLaw _ hfree
  | stuckReported r | clearFails r =>
    exact State.conclude_storeLaw s <| (State.failOp_storeShrinks r _ _).storeLaw <| h.of_same rfl rfl rfl
  | holdAExpires | readFills | relayFills | homeRelayBegins | clearSucceeds =>
    exact State.conclude_storeLaw s <| h.of_same (by simp) (by simp) (by simp)
  | _ => exact h.of_same (by simp) (by simp) (by simp)

theorem State.reset_storeLaw : State.reset.storeLaw := by
  refine ⟨?_, ?_, ?_, nofun⟩ <;> decide

/-- Settles O57: every claim that adds to the store is tested against what is free, and everything else shrinks it. -/
theorem stepKeepsTheStoreLaw : Obligations.StepKeepsTheStoreLaw := by
  intro s t h
  refine step_keeps (P := State.storeLaw) ?_ ?_ ?_ h
  · intro c u v hu hc
    refine exec_keeps (P := State.storeLaw) ?_ ?_ (fun w => w.takeSetup_storeShrinks.storeLaw)
      (fun w => w.takeClosing_storeShrinks.storeLaw) (fun _ _ h he => he.storeLaw h) hu hc
    · exact fun w _ => State.reset_storeLaw.of_same rfl rfl rfl
    · exact fun ha sb w _ => State.conclude_storeLaw _ (State.reset_storeLaw.of_same rfl rfl rfl)
  · exact fun u cs hu => hu.of_same rfl rfl rfl
  · exact fun u hu => (u.takeClosing_storeShrinks.storeLaw hu).of_same (by simp [State.elapse]) (by simp [State.elapse])
      (by simp [State.elapse])

end Sys2Proof.Machine
end

section
/-! PROOF. The tables in force (R2, R3, R9, R16): only an acceptance, the fallback and a swap change them, and each
leaves them lawful; everything else keeps the tables and the number of device states, and brings no holding copy that
has not been accepted (O58). -/

namespace Sys2Proof.Machine

/-- The tables are in force as before, as many device states are kept, and no holding copy has come to wait for the
swap. -/
structure State.TablesKept (s t : State) : Prop where
  straps : t.setup.straps = s.setup.straps
  config : t.setup.config = s.setup.config
  tables : t.setup.tables = s.setup.tables
  states : t.down.states.length = s.down.states.length
  holding : t.setup.reload = .waitSwap → s.setup.reload = .waitSwap ∧ t.setup.holding = s.setup.holding

namespace State.TablesKept

theorem refl (s : State) : s.TablesKept s := ⟨rfl, rfl, rfl, rfl, fun h => ⟨h, rfl⟩⟩

theorem trans {s t u : State} (h : s.TablesKept t) (h' : t.TablesKept u) : s.TablesKept u := by
  refine ⟨h'.straps.trans h.straps, h'.config.trans h.config, h'.tables.trans h.tables, h'.states.trans h.states, ?_⟩
  intro hu
  obtain ⟨ht, hh'⟩ := h'.holding hu
  obtain ⟨hs, hh⟩ := h.holding ht
  exact ⟨hs, hh'.trans hh⟩

/-- What leaves the setup unit alone, and changes the state of a device at most. -/
theorem of_same {s t : State} (hs : t.setup = s.setup) (hd : t.down.states.length = s.down.states.length) :
    s.TablesKept t :=
  ⟨by rw [hs], by rw [hs], by rw [hs], hd, fun h => by rw [hs] at h ⊢; exact ⟨h, rfl⟩⟩

theorem tablesLaw {s t : State} (h : s.TablesKept t) (hs : s.tablesLaw) : t.tablesLaw := by
  obtain ⟨hst, hc, ht, hd, hh⟩ := h
  obtain ⟨hun, hco, hsw⟩ := hs
  refine ⟨?_, ?_, ?_⟩
  · rw [hc, ht, hd]; exact hun
  · rw [hc, ht, hd, hst]; exact hco
  · intro bs hr hb
    obtain ⟨hr', hb'⟩ := hh hr
    rw [hst]
    exact hsw bs hr' (hb' ▸ hb)

end State.TablesKept

/-! ## What keeps the tables -/

@[simp] theorem State.setStateAt_states_length (a : DevAddr) (v : DevState) (s : State) :
    (s.setStateAt a v).down.states.length = s.down.states.length := by
  unfold State.setStateAt
  split
  · simp [State.setDevState, State.updDown]
  · rfl

@[simp] theorem State.pollAfterWrite_states_length (a : DevAddr) (refused : Bool) (s : State) :
    (s.pollAfterWrite a refused).down.states.length = s.down.states.length :=
  s.setStateAt_states_length a .busy

@[simp] theorem State.closed_states_length (home : Bool) (s : State) :
    (s.closed home).down.states.length = s.down.states.length := by
  unfold State.closed
  split
  · exact State.pollAfterWrite_states_length _ _ _
  · split <;> rfl

theorem State.rejectAttempt_tablesKept (r : Reject) (s : State) : s.TablesKept (s.rejectAttempt r) :=
  ⟨by simp, by simp, by simp, by simp, by simp⟩

theorem State.rejectReload_tablesKept (r : Reject) (s : State) : s.TablesKept (s.rejectReload r) := by
  refine ⟨by simp, by simp, by simp, by simp, fun h => ?_⟩
  unfold State.rejectReload at h
  dsimp only at h
  split at h <;> simp [State.openGate] at h

theorem State.staleReadEnded_tablesKept (s : State) : s.TablesKept s.staleReadEnded :=
  ⟨rfl, rfl, rfl, rfl, nofun⟩

theorem State.requestReload_tablesKept (s : State) : s.TablesKept s.requestReload :=
  ⟨rfl, rfl, rfl, rfl, nofun⟩

theorem State.removeRetired_tablesKept (g : Group) (s : State) : s.TablesKept (s.removeRetired g) := by
  have hsetup : (s.removeRetired g).setup = s.setup.afterRetirement g.touchesSetup := rfl
  refine ⟨?_, ?_, ?_, by simp, fun h => ?_⟩
  all_goals
    simp only [hsetup, Setup.afterRetirement] at *
    (repeat' split at *) <;> simp_all

theorem State.retire_tablesKept (s : State) : s.TablesKept s.retire := by
  unfold State.retire
  split
  · exact .refl s
  · next g _ =>
    refine (s.removeRetired_tablesKept g).trans ?_
    have hnext : (s.removeRetired g).TablesKept ((s.removeRetired g).takeClaims.atBoundary .idle) :=
      .of_same (by simp) (by simp)
    refine hnext.trans ?_
    unfold State.replayEnd
    split
    · split
      · exact ⟨by simp, by simp, by simp, by simp, by simp⟩
      · exact ⟨by simp, by simp, by simp, by simp, by simp [State.requestReload, Setup.startReading]⟩
    · exact .refl _

theorem State.halt_tablesKept (c : FaultCode) (s : State) : s.TablesKept (s.halt c) :=
  ⟨by simp, by simp, by simp, by simp, by simp⟩

theorem State.repeatOrHalt_tablesKept (c : FaultCode) (s : State) : s.TablesKept (s.repeatOrHalt c) := by
  unfold State.repeatOrHalt
  split
  · exact .of_same rfl rfl
  · exact s.halt_tablesKept c

theorem State.writeStepDone_tablesKept (s : State) : s.TablesKept s.writeStepDone := by
  unfold State.writeStepDone
  dsimp only
  split
  · split <;> exact .of_same (by simp) (by simp)
  · exact .of_same (by simp) (by simp)
  · split <;> exact .of_same (by simp) (by simp)
  · exact s.retire_tablesKept
  · exact .refl s

theorem State.verifyDone_tablesKept (bs : List Byte) (s : State) : s.TablesKept (s.verifyDone bs) := by
  unfold State.verifyDone
  split
  · exact .refl s
  · split
    · exact .of_same (by simp) (by simp)
    · split
      · exact .of_same (by simp) (by simp)
      · exact s.halt_tablesKept _

theorem State.attemptPolled_tablesKept (s : State) : s.TablesKept s.attemptPolled :=
  ⟨by simp, by simp, by simp, by simp, by simp⟩

theorem State.relayPollFailed_tablesKept (s : State) : s.TablesKept s.relayPollFailed :=
  ⟨by simp, by simp, by simp, by simp, by simp⟩

theorem State.relayFailed_tablesKept (c : OpFailure) (s : State) : s.TablesKept (s.relayFailed c) := by
  unfold State.relayFailed
  split
  · refine .trans ?_ (State.relayPollFailed_tablesKept _)
    exact .of_same rfl rfl
  · split <;> exact .of_same (by simp) (by simp)

theorem State.granted_tablesKept (r : Requester) (s : State) : s.TablesKept (s.granted r) :=
  ⟨by simp, by simp, by simp, by simp, by simp⟩

/-! ## What changes the tables -/

/-- At least one device state is kept: for the home device, or for the first of an accepted table. -/
theorem State.tablesLaw.states_pos {s : State} (h : s.tablesLaw) : 1 ≤ s.down.states.length := by
  obtain ⟨hun, hco, -⟩ := h
  cases hc : s.setup.config with
  | unconfigured => exact Nat.le_of_eq (hun hc).2.symm
  | configured =>
    obtain ⟨⟨bs, hacc, htab⟩, hlen⟩ := hco hc
    rw [hlen, htab]
    exact accepted_devices hacc

/-- The fallback leaves the defaults in force, and the home device's state (R3, R179). -/
theorem State.fallback_tablesLaw (r : Reject) {s : State} (h : s.tablesLaw) : (s.fallback r).tablesLaw := by
  have hpos := h.states_pos
  obtain ⟨-, -, hsw⟩ := h
  have hcfg : (s.fallback r).setup.config = .unconfigured := rfl
  refine ⟨fun _ => ⟨rfl, ?_⟩, fun hc => absurd (hcfg.symm.trans hc) nofun, ?_⟩
  · have hst : (s.fallback r).down.states = s.down.states.take 1 := rfl
    rw [hst, List.length_take, Nat.min_eq_left hpos]
  · simpa using hsw

/-- An acceptance puts the record's tables in force, with a state for each of its devices (R2, R177). -/
theorem State.acceptLoad_tablesLaw {bs : List Byte} {s : State} (h : s.tablesLaw) (hacc : accepted s.setup.straps bs) :
    (s.acceptLoad bs).tablesLaw := by
  have hpos := h.states_pos
  obtain ⟨-, -, hsw⟩ := h
  have hcfg : (s.acceptLoad bs).setup.config = .configured := rfl
  have htab : (s.acceptLoad bs).setup.tables = tablesOf bs := rfl
  refine ⟨fun hc => absurd (hcfg.symm.trans hc) nofun, fun _ => ⟨⟨bs, by simpa using hacc, htab⟩, ?_⟩, by simpa using hsw⟩
  have hst : (s.acceptLoad bs).down.states
      = s.down.states.take 1 ++ List.replicate ((tablesOf bs).devices.length - 1) .busy := by
    have hcaught : (if s.setup.phase = .loading ∨ s.port.frame = none then s else s.catchFrame.dropRelay).down.states
        = s.down.states := by split <;> simp
    exact congrArg (fun l => l.take 1 ++ List.replicate ((tablesOf bs).devices.length - 1) DevState.busy) hcaught
  have hdev := accepted_devices hacc
  rw [hst, htab, List.length_append, List.length_take, List.length_replicate]
  omega

/-- A swap puts the tables of an accepted holding copy in force (R18). -/
theorem State.swap_tablesLaw {bs : List Byte} {s : State} (hacc : accepted s.setup.straps bs) :
    (s.swap bs).tablesLaw := by
  unfold State.swap
  dsimp only
  split
  all_goals exact ⟨nofun, fun _ => ⟨⟨bs, hacc, rfl⟩, List.length_map _⟩, nofun⟩

/-- A read of the setup area ends: a record is taken over only when it passes every check (R9, R16, R177). -/
theorem State.loadFailed_tablesLaw (r : Reject) {s : State} (h : s.tablesLaw) : (s.loadFailed r).tablesLaw := by
  unfold State.loadFailed
  split
  · split
    · exact s.staleReadEnded_tablesKept.tablesLaw h
    · exact (s.rejectReload_tablesKept r).tablesLaw h
  · split
    · exact State.fallback_tablesLaw r h
    · exact (s.rejectAttempt_tablesKept r).tablesLaw h

theorem State.loadRead_tablesLaw {bs : List Byte} {s : State} (hl : bs.length = Config.areaSize) (h : s.tablesLaw) :
    (s.loadRead bs).tablesLaw := by
  unfold State.loadRead
  split
  · split
    · exact s.staleReadEnded_tablesKept.tablesLaw h
    · split
      · next hv =>
        obtain ⟨hun, hco, -⟩ := h
        exact ⟨hun, hco, fun bs' _ hb => by cases hb; exact ⟨hl, hv⟩⟩
      · exact (s.rejectReload_tablesKept _).tablesLaw h
  · split
    · next hv => exact State.acceptLoad_tablesLaw h ⟨hl, hv⟩
    · exact State.loadFailed_tablesLaw _ h

theorem State.setupReadRefused_tablesLaw {s : State} (h : s.tablesLaw) : s.setupReadRefused.tablesLaw := by
  have hcount : s.TablesKept (s.updSetup fun st => { st with readAttempts := st.readAttempts + 1 }) :=
    ⟨rfl, rfl, rfl, rfl, fun hw => ⟨hw, rfl⟩⟩
  unfold State.setupReadRefused
  dsimp only
  split
  · split
    · have hwait : s.TablesKept ((s.updSetup fun st => { st with readAttempts := st.readAttempts + 1 }).updSetup
          Setup.holdRepeat) := ⟨rfl, rfl, rfl, rfl, nofun⟩
      exact hwait.tablesLaw h
    · exact (hcount.trans (.of_same rfl rfl)).tablesLaw h
  · exact State.loadFailed_tablesLaw _ (hcount.tablesLaw h)

theorem State.scanReadRefused_tablesLaw {s : State} (h : s.tablesLaw) : s.scanReadRefused.tablesLaw := by
  unfold State.scanReadRefused
  split
  · exact h
  · split
    · exact (TablesKept.of_same rfl rfl).tablesLaw h
    · exact State.fallback_tablesLaw _ h

theorem State.readRefused_tablesLaw (r : Requester) {s : State} (h : s.tablesLaw) : (s.readRefused r).tablesLaw := by
  unfold State.readRefused
  cases r with
  | engine => exact (State.repeatOrHalt_tablesKept _ _).tablesLaw ((TablesKept.of_same rfl rfl).tablesLaw h)
  | setupRead => exact State.setupReadRefused_tablesLaw h
  | scanRead => exact State.scanReadRefused_tablesLaw h
  | posted i | read | relay | homePoll => exact h

theorem State.finishScan_tablesLaw (cs : List Candidate) {s : State} (h : s.tablesLaw) :
    (s.finishScan cs).tablesLaw := by
  unfold State.finishScan
  split
  · exact State.fallback_tablesLaw _ h
  · dsimp only
    split
    · exact (TablesKept.mk rfl rfl rfl rfl fun hw => ⟨hw, rfl⟩).tablesLaw h
    · exact (TablesKept.mk (by simp) (by simp) (by simp) (by simp) (by simp)).tablesLaw h

theorem State.scanRecords_tablesLaw (cs : List Candidate) {s : State} (h : s.tablesLaw) :
    (s.scanRecords cs).tablesLaw := by
  unfold State.scanRecords
  split
  · exact (TablesKept.of_same rfl rfl).tablesLaw h
  · exact State.finishScan_tablesLaw cs h

theorem State.scanHeader_tablesLaw (o : Nat) (cs : List Candidate) (bs : List Byte) {s : State} (h : s.tablesLaw) :
    (s.scanHeader o cs bs).tablesLaw := by
  unfold State.scanHeader
  dsimp only
  split
  · exact (TablesKept.of_same rfl rfl).tablesLaw h
  · exact State.scanRecords_tablesLaw _ h

theorem State.failOp_tablesLaw (r : Requester) (c : OpFailure) {s : State} (h : s.tablesLaw) :
    (s.failOp r c).tablesLaw := by
  have hfree : s.freeBus.tablesLaw := (TablesKept.of_same rfl rfl).tablesLaw h
  unfold State.failOp
  cases r with
  | posted i | read => exact (TablesKept.of_same (by simp) (by simp)).tablesLaw h
  | relay => exact (s.relayFailed_tablesKept c).tablesLaw h
  | engine => exact (State.halt_tablesKept _ _).tablesLaw hfree
  | setupRead => exact State.loadFailed_tablesLaw _ hfree
  | scanRead | homePoll => exact State.fallback_tablesLaw _ hfree

/-! ## The grants, and the steps by themselves -/

theorem State.openGrant_tablesLaw (r : Requester) {s : State} (h : s.tablesLaw) : (s.openGrant r).tablesLaw := by
  unfold State.openGrant
  split
  · exact (TablesKept.of_same rfl rfl).tablesLaw h
  · have hg := (s.granted_tablesKept r).tablesLaw h
    dsimp only
    split
    · exact (TablesKept.of_same rfl rfl).tablesLaw hg
    · split
      · exact (TablesKept.of_same (by simp) (by simp)).tablesLaw hg
      · exact (TablesKept.of_same rfl rfl).tablesLaw hg
      · exact State.failOp_tablesLaw _ _ hg

theorem State.conclude_tablesLaw (s0 : State) {s : State} (h : s.tablesLaw) : (s0.conclude s).tablesLaw := by
  refine State.conclude_induct (P := State.tablesLaw) (fun u v r raced hu _ hc => ?_) s0 s h
  obtain ⟨-, hs, -, -, -, -, -, -, -, -, -, -, hd, -⟩ := State.choose_leaves raced r v u hc
  refine State.openGrant_tablesLaw r ?_
  exact (TablesKept.of_same (by simp [hs]) (by simp [hd])).tablesLaw hu

theorem State.takeClosing_tablesLaw {s : State} (h : s.tablesLaw) : s.takeClosing.tablesLaw := by
  unfold State.takeClosing
  split
  · split
    · exact h
    · exact State.conclude_tablesLaw _ ((TablesKept.of_same (by simp) (by simp)).tablesLaw h)
  · exact h

theorem State.takeSetup_tablesLaw {s : State} (h : s.tablesLaw) : s.takeSetup.tablesLaw := by
  unfold State.takeSetup
  split
  · exact State.conclude_tablesLaw _ (s.requestReload_tablesKept.tablesLaw h)
  · split
    · next hdue =>
      obtain ⟨hw, -⟩ := of_decide_eq_true hdue
      have hsw := h.2.2
      unfold State.takeSwap
      split
      · exact State.swap_tablesLaw (hsw _ hw ‹_›)
      · exact h
    · exact h

/-! ## Every step -/

theorem State.tablesLaw.of_same {s t : State} (h : s.tablesLaw) (hs : t.setup = s.setup)
    (hd : t.down.states.length = s.down.states.length) : t.tablesLaw :=
  (State.TablesKept.of_same hs hd).tablesLaw h

theorem markEffect_tablesKept (v : Byte) (s : State) : s.TablesKept (markEffect v s).1 := by
  unfold markEffect
  split
  · exact .of_same rfl rfl
  split
  · exact .of_same (by simp) (by simp)
  split
  · exact .of_same (by simp) (by unfold markRetry; dsimp only; split <;> simp [State.updDown])
  split
  · exact .of_same (by simp) (by simp)
  split
  · exact .of_same (by simp) (by simp)
  split <;> exact .of_same rfl rfl

theorem State.actOnMark_tablesKept (v : Byte) (s : State) : s.TablesKept (s.actOnMark v) :=
  (markEffect_tablesKept v s).trans (.of_same rfl rfl)

theorem State.leaveRelay_tablesKept {onOpen : Relay → State → State}
    (hopen : ∀ (r : Relay) (u : State), u.TablesKept (onOpen r u)) (s : State) : s.TablesKept (s.leaveRelay onOpen) := by
  unfold State.leaveRelay
  split
  · exact .refl s
  · repeat' split
    · exact .of_same rfl rfl
    · exact .of_same rfl rfl
    · refine .trans ?_ (hopen _ _)
      exact .of_same rfl rfl
    · exact .of_same rfl rfl

theorem State.reportRelay_tablesKept (r : Relay) (s : State) : s.TablesKept (s.reportRelay r) := by
  unfold State.reportRelay
  split
  · refine ⟨?_, ?_, ?_, rfl, ?_⟩
    all_goals simp only [State.updSetup_setup, Setup.noteLoadRequest]; split <;> simp
  · exact .refl s

theorem State.closeRelay_tablesKept (report : Bool) (s : State) : s.TablesKept (s.closeRelay report) := by
  refine State.leaveRelay_tablesKept (fun r u => ?_) s
  dsimp only
  split
  · refine .trans ?_ (State.reportRelay_tablesKept r _)
    exact .of_same rfl rfl
  · exact .of_same rfl rfl

theorem State.endRelay_tablesKept (k : EndKind) (f : Frame) (s : State) : s.TablesKept (s.endRelay k f) := by
  unfold State.endRelay
  split
  · exact .refl s
  · split
    · exact .of_same (by simp) (by simp)
    · exact s.closeRelay_tablesKept _
    · split
      · exact s.closeRelay_tablesKept _
      · exact .of_same rfl rfl

theorem State.endFrame_tablesKept (k : EndKind) (s : State) : s.TablesKept (s.endFrame k) := by
  unfold State.endFrame
  split
  · exact .refl s
  · next f _ =>
    have hb : s.TablesKept (((s.endBlock k f).endRelay k f).clearFrame) :=
      .trans (.of_same (by simp) (by simp)) <| (State.endRelay_tablesKept k f _).trans (.of_same rfl rfl)
    dsimp only
    split
    · exact hb.trans (State.actOnMark_tablesKept _ _)
    · exact hb

theorem State.concludeFrame_tablesLaw (k : EndKind) {s : State} (h : s.tablesLaw) : (s.concludeFrame k).tablesLaw :=
  State.conclude_tablesLaw s ((s.endFrame_tablesKept k).tablesLaw h)

theorem State.closePending_tablesLaw {s : State} (h : s.tablesLaw) : s.closePending.tablesLaw :=
  State.conclude_tablesLaw s ((s.closeRelay_tablesKept false).tablesLaw h)

theorem State.classDeviceByte_tablesLaw (b : Byte) {s : State} (h : s.tablesLaw) : (s.classDeviceByte b).tablesLaw := by
  unfold State.classDeviceByte
  split
  · split <;> exact (State.closePending_tablesLaw h).of_same (by simp) (by simp)
  · split
    · exact h.of_same (by simp) (by simp)
    · exact (State.closePending_tablesLaw h).of_same (by simp) (by simp)

theorem State.afterPoll_tablesKept (r : Requester) (p : Poll) (s : State) : s.TablesKept (s.afterPoll r p) := by
  have hfree : s.TablesKept s.freeBus := .of_same rfl rfl
  unfold State.afterPoll
  cases r with
  | homePoll => exact ⟨rfl, rfl, rfl, rfl, fun h => ⟨h, rfl⟩⟩
  | engine =>
    dsimp only
    split
    · split
      · exact hfree.trans (State.repeatOrHalt_tablesKept _ _)
      · exact hfree.trans (State.writeStepDone_tablesKept _)
    · exact .of_same rfl rfl
  | relay =>
    dsimp only
    split
    · exact hfree.trans (State.attemptPolled_tablesKept _)
    · exact .of_same rfl rfl
  | posted i | read =>
    dsimp only
    split <;> exact .of_same (by simp) (by simp)
  | setupRead | scanRead => exact .of_same rfl rfl

theorem State.resumeAfterClear_tablesKept (r : Requester) (s : State) : s.TablesKept (s.resumeAfterClear r) := by
  unfold State.resumeAfterClear
  dsimp only
  split
  · exact .of_same rfl rfl
  · split
    · refine .trans ?_ (State.attemptPolled_tablesKept _)
      exact .of_same rfl rfl
    · repeat' split
      all_goals exact .of_same (by simp) (by simp)

theorem Event.tablesLaw {s t : State} (he : Event s t) (h : s.tablesLaw) : t.tablesLaw := by
  have hfree : s.freeBus.tablesLaw := h.of_same rfl rfl
  cases he with
  | frameRestarts k => exact (State.concludeFrame_tablesLaw k h).of_same rfl rfl
  | frameEnds k => exact State.concludeFrame_tablesLaw k h
  | deviceByteRefused b => exact (State.closePending_tablesLaw h).of_same rfl rfl
  | deviceByteClassed f b => exact State.conclude_tablesLaw _ (State.classDeviceByte_tablesLaw b h)
  | markActs v => exact State.conclude_tablesLaw s ((s.actOnMark_tablesKept v).tablesLaw h)
  | pollAcknowledged r p =>
    exact State.conclude_tablesLaw s <| (State.afterPoll_tablesKept r p _).tablesLaw <| h.of_same (by simp) (by simp)
  | pollExpires r p => exact State.conclude_tablesLaw s <| State.failOp_tablesLaw r _ <| h.of_same (by simp) (by simp)
  | readRefused r => exact State.conclude_tablesLaw s <| State.readRefused_tablesLaw r hfree
  | verifyDone bs => exact State.conclude_tablesLaw s <| (State.verifyDone_tablesKept bs _).tablesLaw hfree
  | setupReadDone bs hl => exact State.conclude_tablesLaw s <| State.loadRead_tablesLaw hl hfree
  | scanHeaderDone o cs bs => exact State.conclude_tablesLaw s <| State.scanHeader_tablesLaw o cs bs hfree
  | scanRecordDone o cs bs => exact State.conclude_tablesLaw s <| State.scanRecords_tablesLaw _ hfree
  | stuckReported r | clearFails r =>
    exact State.conclude_tablesLaw s <| State.failOp_tablesLaw r _ <| h.of_same rfl (by simp [State.updDown])
  | clearSucceeds r =>
    exact State.conclude_tablesLaw s <| (State.resumeAfterClear_tablesKept r _).tablesLaw <| h.of_same rfl rfl
  | holdAExpires | readFills | relayFills | homeRelayBegins =>
    exact State.conclude_tablesLaw s <| h.of_same (by simp) (by simp)
  | _ => exact h.of_same (by simp) (by simp)

theorem State.reset_tablesLaw : State.reset.tablesLaw := ⟨fun _ => ⟨rfl, rfl⟩, nofun, nofun⟩

/-- Settles O58: an acceptance and a swap put an accepted record's tables in force, the fallback the defaults, and
nothing else touches them. -/
theorem stepKeepsTheTablesLawful : Obligations.StepKeepsTheTablesLawful := by
  intro s t h
  refine step_keeps (P := State.tablesLaw) ?_ ?_ ?_ h
  · intro c u v hu hc
    refine exec_keeps (P := State.tablesLaw) ?_ ?_ (fun _ => State.takeSetup_tablesLaw)
      (fun _ => State.takeClosing_tablesLaw) (fun _ _ h he => he.tablesLaw h) hu hc
    · exact fun w _ => State.reset_tablesLaw.of_same rfl rfl
    · exact fun ha sb w _ => State.conclude_tablesLaw _ ⟨fun _ => ⟨rfl, rfl⟩, nofun, nofun⟩
  · exact fun u cs hu => hu.of_same rfl rfl
  · exact fun u hu => (State.takeClosing_tablesLaw hu).of_same (by simp [State.elapse]) (by simp [State.elapse])

end Sys2Proof.Machine
end

section
/-! PROOF. Due steps come first (R16, R18): a step of the setup unit leaves none due, no grant brings closing conditions
with it, and what cannot come within closing conditions is refused there (O3). -/

namespace Sys2Proof.Machine

/-! ## After a due step none is due -/

/-- No reload waits, and the bytes being read, if any, are not stale. -/
def State.reloadsRest (s : State) : Prop :=
  s.setup.stale = false ∧ s.setup.reload ≠ .waitRead ∧ s.setup.reload ≠ .waitSwap

theorem State.reloadsRest.of_same {s t : State} (h : s.reloadsRest) (hs : t.setup.stale = s.setup.stale)
    (hr : t.setup.reload = s.setup.reload) : t.reloadsRest := by
  unfold State.reloadsRest
  rwa [hs, hr]

theorem State.reloadsRest.nothingDue {s : State} (h : s.reloadsRest) : s.nothingDue := by
  obtain ⟨-, hread, hswap⟩ := h
  exact ⟨by simp [State.reloadDue, hread], by simp [State.swapDue, hswap]⟩

theorem State.rejectReload_reloadsRest (r : Reject) (s : State) : (s.rejectReload r).reloadsRest := by
  unfold State.rejectReload
  dsimp only
  split <;> exact ⟨rfl, nofun, nofun⟩

theorem State.loadFailed_reloadsRest (r : Reject) {s : State} (h : s.reloadsRest) : (s.loadFailed r).reloadsRest := by
  unfold State.loadFailed
  split
  · rw [h.1]
    exact s.rejectReload_reloadsRest r
  · split
    · exact h.of_same (by simp) (by simp)
    · exact h.of_same (by simp) (by simp)

theorem State.failOp_reloadsRest (r : Requester) (c : OpFailure) {s : State} (h : s.reloadsRest) :
    (s.failOp r c).reloadsRest := by
  unfold State.failOp
  cases r with
  | setupRead => exact State.loadFailed_reloadsRest _ (h.of_same rfl rfl)
  | posted i | read | relay | engine | scanRead | homePoll => exact h.of_same (by simp) (by simp)

theorem State.openGrant_reloadsRest (r : Requester) {s : State} (h : s.reloadsRest) : (s.openGrant r).reloadsRest := by
  have hg : (s.granted r).reloadsRest := h.of_same (by simp) (by simp)
  unfold State.openGrant
  split
  · exact h.of_same (by simp) (by simp)
  · dsimp only
    split
    · exact hg.of_same rfl rfl
    · split
      · exact hg.of_same (by simp) (by simp)
      · exact hg.of_same rfl rfl
      · exact State.failOp_reloadsRest _ _ hg

theorem State.conclude_reloadsRest (s0 : State) {s : State} (h : s.reloadsRest) : (s0.conclude s).reloadsRest := by
  refine State.conclude_induct (P := State.reloadsRest) (fun u v r raced hu _ hc => ?_) s0 s h
  obtain ⟨-, hs, -⟩ := State.choose_leaves raced r v u hc
  exact State.openGrant_reloadsRest r (hu.of_same (by simp [hs]) (by simp [hs]))

theorem State.swap_reload (bs : List Byte) (s : State) : (s.swap bs).setup.reload = .none := by
  unfold State.swap
  dsimp only
  split <;> rfl

theorem State.takeSetup_nothingDue (s : State) : s.takeSetup.nothingDue := by
  unfold State.takeSetup
  split
  · exact (State.conclude_reloadsRest s (s := s.requestReload) ⟨rfl, nofun, nofun⟩).nothingDue
  · next hr =>
    split
    · next hs =>
      have hh : s.setup.holding.isSome = true := (of_decide_eq_true hs).2.1
      obtain ⟨bs, hbs⟩ := Option.isSome_iff_exists.1 hh
      have ht : s.takeSwap = s.swap bs := by simp [State.takeSwap, hbs]
      have hreload := s.swap_reload bs
      rw [ht]
      exact ⟨by simp [State.reloadDue, hreload], by simp [State.swapDue, hreload]⟩
    · next hs => exact ⟨Bool.eq_false_iff.2 hr, Bool.eq_false_iff.2 hs⟩

/-! ## After closing conditions none are under way -/

/-- No closing conditions are on the segment, or a bus clear is under way. -/
def State.notClosing (s : State) : Prop := s.closingDue = false

theorem State.notClosing.of_same {s t : State} (h : s.notClosing) (ha : t.down.activity = s.down.activity)
    (hc : t.down.clearing = s.down.clearing) : t.notClosing := by
  unfold State.notClosing State.closingDue at *
  rwa [ha, hc]

theorem State.notClosing.of_activity {s : State} (h : ∀ how home, s.down.activity ≠ .closing how home) :
    s.notClosing := by
  unfold State.notClosing State.closingDue
  split
  · exact absurd ‹_› (h _ _)
  · rfl

theorem State.stepFrame_notClosing (s : State) (how : Closing) (home : Bool) : s.stepFrame ≠ .closing how home := by
  unfold State.stepFrame
  split
  all_goals try split
  all_goals nofun

theorem State.scanFrame_notClosing (s : State) (how : Closing) (home : Bool) : s.scanFrame ≠ .closing how home := by
  unfold State.scanFrame
  split
  · nofun
  · split <;> nofun

theorem State.sendFrame_notClosing (r : Requester) {s : State} (h : s.notClosing) : (s.sendFrame r).notClosing := by
  unfold State.sendFrame
  cases r with
  | posted i | setupRead => exact .of_activity nofun
  | read =>
    dsimp only
    split
    · exact .of_activity nofun
    · exact h
  | relay | homePoll => exact h
  | engine => exact .of_activity s.stepFrame_notClosing
  | scanRead => exact .of_activity s.scanFrame_notClosing

theorem State.freeBus_notClosing (s : State) : s.freeBus.notClosing := .of_activity nofun

theorem State.readFailed_notClosing {s : State} : s.readFailed.notClosing := by
  unfold State.readFailed
  split
  · exact s.freeBus_notClosing
  · dsimp only
    have h : (s.endPoll.setActivity .none).notClosing := .of_activity nofun
    split
    · exact h.of_same (by simp) (by simp)
    · exact h.of_same (by simp) (by simp)
    · exact h

theorem State.relayFailed_notClosing (c : OpFailure) {s : State} (h : s.notClosing) : (s.relayFailed c).notClosing := by
  unfold State.relayFailed
  split
  · exact s.freeBus_notClosing.of_same (by simp) (by simp)
  · split
    · exact h.of_same (by simp) (by simp)
    · exact s.freeBus_notClosing.of_same (by simp) (by simp)

theorem State.failOp_notClosing (r : Requester) (c : OpFailure) {s : State} (h : s.notClosing) :
    (s.failOp r c).notClosing := by
  unfold State.failOp
  cases r with
  | read => exact State.readFailed_notClosing
  | relay => exact State.relayFailed_notClosing c h
  | posted i | engine | setupRead | scanRead | homePoll => exact s.freeBus_notClosing.of_same (by simp) (by simp)

theorem State.openGrant_notClosing (r : Requester) {s : State} (h : s.notClosing) : (s.openGrant r).notClosing := by
  have hg : (s.granted r).notClosing := h.of_same (by simp) (by simp)
  unfold State.openGrant
  split
  · exact .of_activity nofun
  · dsimp only
    split
    · exact hg.of_same rfl rfl
    · split
      · exact State.sendFrame_notClosing r hg
      · exact .of_activity nofun
      · exact State.failOp_notClosing _ _ hg

theorem State.conclude_notClosing (s0 : State) {s : State} (h : s.notClosing) : (s0.conclude s).notClosing := by
  refine State.conclude_induct (P := State.notClosing) (fun u v r raced hu _ hc => ?_) s0 s h
  obtain ⟨-, -, -, -, -, -, -, -, -, -, -, -, -, -, -, -, hclear, -, -, ha, -⟩ := State.choose_leaves raced r v u hc
  exact State.openGrant_notClosing r (hu.of_same (by simp [ha]) (by simp [hclear]))

theorem State.closed_notClosing (home : Bool) (s : State) : (s.closed home).notClosing := by
  unfold State.closed
  split
  · exact .of_activity nofun
  · split <;> exact .of_activity nofun

theorem State.closingDue_iff {s : State} :
    s.closingDue = true ↔ s.down.clearing = false ∧ ∃ how home, s.down.activity = .closing how home := by
  unfold State.closingDue
  split
  · next ha => simp [ha]
  · next hn => simpa using fun _ => hn

theorem State.takeClosing_notClosing (s : State) : s.takeClosing.notClosing := by
  cases hd : s.closingDue with
  | false => rw [State.takeClosing_of_not_due hd]; exact hd
  | true =>
    obtain ⟨hclear, how, home, ha⟩ := State.closingDue_iff.1 hd
    have ht : s.takeClosing = s.conclude (s.closed home) := by simp [State.takeClosing, ha, hclear]
    rw [ht]
    exact State.conclude_notClosing s (s.closed_notClosing home)

theorem State.takeSetup_notClosing {s : State} (h : s.notClosing) : s.takeSetup.notClosing := by
  unfold State.takeSetup
  split
  · exact State.conclude_notClosing s (h.of_same rfl rfl)
  · split
    · exact h.of_same (by simp) (by simp)
    · exact h

theorem State.takeClosing_idem (s : State) : s.takeClosing.takeClosing = s.takeClosing :=
  State.takeClosing_of_not_due s.takeClosing_notClosing

/-! ## What is refused within closing conditions -/

theorem markEvent_refused {s : State} (v : Byte) (hf : s.port.frame ≠ none) (hh : s.port.hold ≠ .none) :
    ∃ e, s.markEvent v = .refused e := by
  obtain ⟨f, hf⟩ := Option.ne_none_iff_exists'.1 hf
  unfold State.markEvent
  split
  · exact ⟨_, rfl⟩
  · simp [hf, hh, outOfPlace]

theorem onAttempt_of_no_poll {s : State} (F : Requester → Poll → Result) (h : s.down.poll = none) :
    s.onAttempt F = outOfPlace := by
  unfold State.onAttempt
  rw [h]
  split <;> simp_all

theorem onWrite_of_closing {s : State} (F : Requester → DevAddr → Result) (h : s.closingDue = true) :
    s.onWrite F = outOfPlace := by
  obtain ⟨-, how, home, ha⟩ := State.closingDue_iff.1 h
  unfold State.onWrite
  rw [ha]
  split <;> simp_all

theorem onRead_of_closing {s : State} (F : Requester → Nat → Result) (h : s.closingDue = true) :
    s.onRead F = outOfPlace := by
  obtain ⟨-, how, home, ha⟩ := State.closingDue_iff.1 h
  unfold State.onRead
  rw [ha]
  split <;> simp_all

theorem readActivity_of_closing {s : State} (h : s.closingDue = true) {a : Activity}
    (ha : ∀ how home, a ≠ .closing how home) : s.readActivity ≠ some a := by
  obtain ⟨-, how, home, hact⟩ := State.closingDue_iff.1 h
  unfold State.readActivity
  split
  · rw [hact]
    exact fun he => ha how home (Option.some.inj he).symm
  · nofun

theorem windingUp_of_closing {s : State} (h : s.closingDue = true) : s.windingUp = none := by
  obtain ⟨-, how, home, ha⟩ := State.closingDue_iff.1 h
  unfold State.windingUp
  rw [ha]
  split <;> simp_all

theorem serving_relay_of_outside {s : State} (h : s.down.grant ≠ some .relay ∨ s.down.ended = true) :
    s.serving .relay = false := by
  rcases h with h | h <;> simp [State.serving, h]

/-- Every command but RESET, RESET_RELEASE and the setup unit's two rows is an event, and one that cannot come within
closing conditions is refused there. -/
theorem exec_eq_onEvent_refused {c : Instr} (h1 : c ≠ .reset) (h2 : ∀ ha sb, c ≠ .resetRelease ha sb)
    (h3 : c ≠ .reloadReadRequest) (h4 : c ≠ .setupSwap) :
    ∃ f, (∀ s, exec c s = onEvent f s)
      ∧ ∀ s, s.closingDue = true → outsideClosing c s → ∃ e, f s = .refused e := by
  cases c with
  | reset => exact absurd rfl h1
  | resetRelease ha sb => exact absurd rfl (h2 ha sb)
  | reloadReadRequest => exact absurd rfl h3
  | setupSwap => exact absurd rfl h4
  | start | repeatedStart =>
    refine ⟨_, fun _ => rfl, fun s _ ho => ?_⟩
    obtain ⟨hr, hf, hh⟩ := ho
    obtain ⟨f, hf⟩ := Option.ne_none_iff_exists'.1 hf
    exact ⟨.outOfPlace, by simp [State.fallOfUsda, hr, hf, hh, outOfPlace]⟩
  | stop =>
    refine ⟨_, fun s => show execStop s = _ from rfl, fun s _ ho => ?_⟩
    obtain ⟨hf, hh⟩ := ho
    obtain ⟨f, hf⟩ := Option.ne_none_iff_exists'.1 hf
    exact ⟨.outOfPlace, by simp [hf, hh, outOfPlace]⟩
  | misplacedCondition isStart =>
    refine ⟨_, fun s => show execMisplacedCondition isStart s = _ from rfl, fun s _ ho => ?_⟩
    obtain ⟨hf, hh, ht⟩ := ho
    obtain ⟨f, hf⟩ := Option.ne_none_iff_exists'.1 hf
    have hheld : s.clockHeld = true := by simp [State.clockHeld, hh, Option.isSome_iff_ne_none, ht]
    exact ⟨.outOfPlace, by simp [hf, hheld, outOfPlace]⟩
  | deviceByte b =>
    refine ⟨_, fun s => show execDeviceByte b s = _ from rfl, fun s _ ho => ?_⟩
    obtain ⟨hh, f, hf, hd⟩ := ho
    exact ⟨.outOfPlace, by simp [hf, hd, hh, outOfPlace]⟩
  | wordAddressByte b =>
    refine ⟨_, fun s => show execWordAddressByte b s = _ from rfl, fun s _ ho => ?_⟩
    obtain ⟨hh, f, hf, hd⟩ := ho
    exact ⟨.outOfPlace, by simp [hf, hd, hh, outOfPlace]⟩
  | dataByte b =>
    refine ⟨_, fun s => show execDataByte b s = _ from rfl, fun s _ ho => ?_⟩
    obtain ⟨hh, f, hf, hd⟩ := ho
    exact ⟨.outOfPlace, by simp [hf, hd, hh, outOfPlace]⟩
  | controllerAnswer ack =>
    refine ⟨_, fun s => show execControllerAnswer ack s = _ from rfl, fun s _ ho => ?_⟩
    obtain ⟨hh, f, hf, hd⟩ := ho
    exact ⟨.outOfPlace, by simp [hf, hd, hh, outOfPlace]⟩
  | holdTimerExpiryA =>
    refine ⟨_, fun s => show execHoldTimerExpiryA s = _ from rfl, fun s _ ho => ⟨.outOfPlace, ?_⟩⟩
    rcases ho with hf | hh
    · simp [hf, outOfPlace]
    · simp only [if_neg hh]
      split <;> rfl
  | holdTimerExpiryB =>
    refine ⟨_, fun s => show execHoldTimerExpiryB s = _ from rfl, fun s _ ho => ⟨.outOfPlace, ?_⟩⟩
    rcases ho with hf | hh
    · simp [hf, outOfPlace]
    · simp only [hh, false_and, if_false]
      split <;> rfl
  | idleTimerExpiry =>
    refine ⟨_, fun s => show execIdleTimerExpiry s = _ from rfl, fun s _ ho => ⟨.outOfPlace, ?_⟩⟩
    rcases ho with hf | ht
    · simp [hf, outOfPlace]
    · simp [ht, outOfPlace]
  | discard | retry | pause | resume | clear =>
    exact ⟨_, fun _ => rfl, fun s _ ho => markEvent_refused _ ho.1 ho.2⟩
  | invalidMark value =>
    refine ⟨_, fun s => show execInvalidMark value s = _ from rfl, fun s _ ho => ?_⟩
    split
    · exact markEvent_refused _ ho.1 ho.2
    · exact ⟨_, rfl⟩
  | pollAttemptAcknowledged =>
    exact ⟨_, fun s => show execPollAttemptAcknowledged s = _ from rfl, fun s _ ho => ⟨_, onAttempt_of_no_poll _ ho⟩⟩
  | pollAttemptNak age =>
    exact ⟨_, fun s => show execPollAttemptNak age s = _ from rfl, fun s _ ho => ⟨_, onAttempt_of_no_poll _ ho⟩⟩
  | pollIntervalElapsed =>
    refine ⟨_, fun s => show execPollIntervalElapsed s = _ from rfl, fun s _ (ho : s.down.poll = none) => ⟨.outOfPlace, ?_⟩⟩
    simp [ho, outOfPlace]
  | pollExpired =>
    exact ⟨_, fun s => show execPollExpired s = _ from rfl, fun s _ ho => ⟨_, onAttempt_of_no_poll _ ho⟩⟩
  | writeFrameSent =>
    exact ⟨_, fun s => show execWriteFrameSent s = _ from rfl, fun s hd _ => ⟨_, onWrite_of_closing _ hd⟩⟩
  | frameRefused =>
    exact ⟨_, fun s => show execFrameRefused s = _ from rfl, fun s hd _ => ⟨_, onWrite_of_closing _ hd⟩⟩
  | readFrameRefused =>
    exact ⟨_, fun s => show execReadFrameRefused s = _ from rfl, fun s hd _ => ⟨_, onRead_of_closing _ hd⟩⟩
  | verifyReadDone bs =>
    refine ⟨_, fun s => show execVerifyReadDone bs s = _ from rfl, fun s hd _ => ?_⟩
    split
    · exact ⟨_, onRead_of_closing _ hd⟩
    · exact ⟨_, rfl⟩
  | setupReadDone bs =>
    refine ⟨_, fun s => show execSetupReadDone bs s = _ from rfl, fun s hd _ => ?_⟩
    split
    · exact ⟨_, onRead_of_closing _ hd⟩
    · exact ⟨_, rfl⟩
  | scanHeaderReadDone bs =>
    refine ⟨_, fun s => show execScanHeaderReadDone bs s = _ from rfl, fun s hd _ => ?_⟩
    split
    · exact ⟨_, onRead_of_closing _ hd⟩
    · exact ⟨_, rfl⟩
  | scanRecordReadDone bs =>
    refine ⟨_, fun s => show execScanRecordReadDone bs s = _ from rfl, fun s hd _ => ?_⟩
    split
    · exact ⟨_, onRead_of_closing _ hd⟩
    · exact ⟨_, rfl⟩
  | readHeaderDone ack =>
    refine ⟨_, fun s => show execReadHeaderDone ack s = _ from rfl, fun s hd _ => ⟨.outOfPlace, ?_⟩⟩
    split
    · next a w ha => exact absurd ha (readActivity_of_closing hd nofun)
    · rfl
  | memoryByteHeld b =>
    refine ⟨_, fun s => show execMemoryByteHeld b s = _ from rfl, fun s hd _ => ⟨.outOfPlace, ?_⟩⟩
    split
    · next ha => exact absurd ha (readActivity_of_closing hd nofun)
    · rfl
  | relayAnswer ack =>
    refine ⟨_, fun s => show execRelayAnswer ack s = _ from rfl, fun s hd ho => ⟨.outOfPlace, ?_⟩⟩
    rw [windingUp_of_closing hd]
    have hs : s.serving .relay = false := serving_relay_of_outside ho
    dsimp only
    split
    · simp [hs, outOfPlace]
    · rfl
  | relayReadByte b =>
    refine ⟨_, fun s => show execRelayReadByte b s = _ from rfl, fun s hd ho => ⟨.outOfPlace, ?_⟩⟩
    rw [windingUp_of_closing hd]
    have hs : s.serving .relay = false := serving_relay_of_outside ho
    dsimp only
    split
    · simp [hs, outOfPlace]
    · rfl
  | stuckBusDetected => exact ⟨_, fun s => show execStuckBusDetected s = _ from rfl, fun s _ ho => ho.elim⟩
  | busClearAttemptEnd success =>
    refine ⟨_, fun s => show execBusClearAttemptEnd success s = _ from rfl, fun s hd _ => ⟨.outOfPlace, ?_⟩⟩
    obtain ⟨hclear, -⟩ := State.closingDue_iff.1 hd
    split
    · rfl
    · simp [hclear, outOfPlace]
  | _ =>
    -- SEAL, the one row left: its name is a keyword of Lean, so that no alternative can give it
    rename_i tag
    refine ⟨_, fun s => show execSeal tag s = _ from rfl, fun s _ ho => ?_⟩
    split
    · exact markEvent_refused _ ho.1 ho.2
    · exact ⟨_, rfl⟩

/-- An event after the closing conditions under way has its meaning there as it is. -/
theorem onEvent_takeClosing (f : State → Result) (s : State) : onEvent f s.takeClosing = f s.takeClosing.takeSetup := by
  have h : s.takeClosing.takeSetup.closingDue = false := State.takeSetup_notClosing s.takeClosing_notClosing
  simp [onEvent, h]

/-- Settles O3: what is due is taken once, and an event that is refused within closing conditions is met after them. -/
theorem dueStepsComeFirst : Obligations.DueStepsComeFirst := by
  refine ⟨State.takeSetup_nothingDue, fun c s h1 h2 h3 h4 => ?_, fun s hs => ?_⟩
  · obtain ⟨f, hf, href⟩ := exec_eq_onEvent_refused h1 h2 h3 h4
    simp only [hf]
    refine ⟨?_, fun hn hd ho => ?_, fun e hn he => ?_⟩
    · simp [onEvent, State.takeSetup_of_nothingDue s.takeSetup_nothingDue]
    · obtain ⟨e, he⟩ := href s hd ho
      simp [onEvent_takeClosing, onEvent_of_nothingDue hn, hd, he]
    · rw [onEvent_of_nothingDue hn] at he
      split at he
      · rw [onEvent_takeClosing]
        cases hs : f s with
        | refused e' => simpa [hs] using he
        | next t => simp [hs] at he
        | fault x => simp [hs, unlessRefused] at he
      · next hd =>
        rw [State.takeClosing_of_not_due (Bool.eq_false_iff.2 hd), onEvent_of_nothingDue hn, if_neg hd]
        exact he
  · change execSetupSwap s = execSetupSwap s.takeClosing
    cases ht : s.takeClosing.swapDue <;> simp [execSetupSwap, hs, ht, State.takeClosing_idem]

end Sys2Proof.Machine
end

section
/-! PROOF. The queue of commands, reset and its release, and the beginning of frames (R1, R117, R118, R173, R175; O1,
O4 to O6, O60). -/

namespace Sys2Proof.Machine

/-! ## The queue -/

theorem step_of_pending {s : State} {c : Instr} {cs : List Instr} (h : s.pending = c :: cs) :
    step s = exec c { s with pending := cs } := by
  simp only [step, h, State.withPending]

theorem step_of_no_pending {s : State} (h : s.pending = []) : step s = .next s.elapse := by
  simp only [step, h]

theorem State.holdClock_of_hold {s : State} {f : Frame} (hf : s.port.frame = some f) (hh : s.port.hold ≠ .none) :
    s.holdClock = { s with port := { s.port with holdTimer := some f.holdLimit, idleTimer := none } } := by
  simp [State.holdClock, hh, hf, State.updPort]

theorem State.holdClock_of_none {s : State} (hh : s.port.hold = .none) : s.holdClock = s := by
  simp [State.holdClock, hh]

/-- Settles O1: the front command is run on the rest of the queue, and on an empty queue time passes. -/
theorem stepTakesFrontCommand : Obligations.StepTakesFrontCommand := by
  refine ⟨fun c cs s h => step_of_pending h, fun s h => step_of_no_pending h, fun s f h hc hf hh => ?_,
    fun s h hc hh => ?_⟩
  · rw [step_of_no_pending h, State.elapse, State.takeClosing_of_not_due hc, State.holdClock_of_hold hf hh]
  · rw [step_of_no_pending h, State.elapse, State.takeClosing_of_not_due hc, State.holdClock_of_none hh]

/-! ## Reset -/

/-- Settles O4: the reset values of every block. -/
theorem resetGivesResetValues : Obligations.ResetGivesResetValues := by
  refine ⟨fun _ => rfl, ?_⟩
  and_intros <;> decide

/-- The home poll placed at the release is granted at once, and is a poll under the limit in force (R176). -/
theorem State.conclude_homePoll (s0 : State) {s : State} (hg : s.down.grant = none) (hu : s.down.upFifo = [])
    (hi : s.down.intReqs = [.homePoll]) :
    s0.conclude s =
      { s with
        down :=
          { s.down with
            intReqs := [], grant := some .homePoll, fairness := 0, detections := 0, ended := false
            speed := s.setup.tables.speed
            poll := some
              { addr := homeAddr s.setup.straps, limit := s.setup.tables.pollLimit, followsWrite := false
                afterRefusal := false, attempt := true }
            activity := .none } } := by
  have hc : ∀ raced, s.choose raced = some (.homePoll, { s with down := { s.down with intReqs := [], fairness := 0 } }) := by
    intro raced
    unfold State.choose
    rw [hu, hi]
    rfl
  unfold State.conclude
  rw [State.grantLoop_step _ hg (hc _)]
  exact State.grantLoop_granted _ _ rfl

/-- Settles O5: the home poll is the only request at the release, so that it is granted at once. -/
theorem releaseStartsHomePoll : Obligations.ReleaseStartsHomePoll := by
  intro ha sb s
  change (_ → execResetRelease ha sb s = _) ∧ (_ → execResetRelease ha sb s = _)
  unfold execResetRelease
  refine ⟨fun hr => ?_, fun hr => ?_⟩
  · rw [if_pos hr]
    dsimp only
    rw [State.conclude_homePoll _ rfl rfl rfl]
    rfl
  · simp [hr, outOfPlace]

/-- Settles O60: in reset nothing waits, nothing is held, and the defaults are in force. -/
theorem resetHasTheInvariants : Obligations.ResetHasTheInvariants :=
  ⟨.inr ⟨rfl, rfl⟩, ⟨Nat.zero_le _, fun _ => rfl⟩, State.reset_storeLaw, State.reset_tablesLaw, State.reset_timerLaw,
    fun h => absurd rfl h⟩

/-! ## The beginning of a frame -/

/-- Between frames a fall of USDA begins a frame under every row that gives it (R117, R118). -/
theorem State.fallOfUsda_betweenFrames {s : State} (hf : s.port.frame = none) (hr : s.inReset = false) :
    s.fallOfUsda = .next s.beginFrame := by
  simp [State.fallOfUsda, hr, hf]

theorem State.fallOfUsda_inReset {s : State} (hr : s.inReset = true) : s.fallOfUsda = .next s := by
  simp [State.fallOfUsda, hr]

theorem exec_of_fall {s t : State} (hd : s.nothingDue) (hf : s.port.frame = none) (h : s.fallOfUsda = .next t) {c : Instr}
    (hc : c = .start ∨ c = .repeatedStart ∨ c = .misplacedCondition true) : exec c s = .next t := by
  rcases hc with rfl | rfl | rfl
  · exact onEvent_of_next hd h
  · exact onEvent_of_next hd h
  · exact (onEvent_of_next hd (by simpa [hf] using h) : execMisplacedCondition true s = _)

/-- Settles O6: the rows of a fall of USDA are one event between frames, and a stop there is none. -/
theorem startBeginsFrame : Obligations.StartBeginsFrame := by
  intro s hd hf
  have hstop : execStop s = .next s := onEvent_of_next hd (by simp [hf])
  have hmisplaced : execMisplacedCondition false s = .next s := onEvent_of_next hd (by simp [hf])
  refine ⟨fun hr c hc => ?_, hstop, hmisplaced, fun hr c hc => ?_⟩
  · exact exec_of_fall hd hf (State.fallOfUsda_betweenFrames hf hr) hc
  · exact exec_of_fall hd hf (State.fallOfUsda_inReset hr) hc

end Sys2Proof.Machine
end

section
/-! PROOF. How upstream frames end (section 7.9): staged, posted and READ frames, headers alone and marks (O7 to
O12). -/

namespace Sys2Proof.Machine

/-! ## The runs of an image (R32) -/

theorem runs_eq_cutRuns (p : PageImage) : p.runs = cutRuns p := by
  unfold PageImage.runs cutRuns
  cases p.wrapped with
  | false => rfl
  | true =>
    by_cases hfull : p.full
    · have hall : p.cells.all Option.isSome = true := hfull
      simp [hfull, hall, runAt]
    · have hall : ¬ p.cells.all Option.isSome = true := hfull
      by_cases hsecond : p.beforeStart = []
      · have hdata : (p.cells.take p.startOff).filterMap id = [] := hsecond
        simp only [hfull, hall, hsecond, hdata, PageImage.fromStart, runAt]
        simp
      · have hdata : ¬ (p.cells.take p.startOff).filterMap id = [] := hsecond
        have hne : p.beforeStart.isEmpty = false := by simpa using hsecond
        simp [hfull, hall, hne, -List.filterMap_eq_nil_iff]
        exact (if_neg hdata).symm

/-! ## Taking runs into a group (R33, R34) -/

/-- A run that is not coalesced becomes an entry of its own. -/
theorem takeRun_of_appends (st : Straps) {d : Nat} {g : Group} {r : Run}
    (h : coalesceNewest d r g.entries.reverse = none) :
    Group.takeRun st d g r =
      { g with
        entries := g.entries ++ [{ dev := d, start := r.start, data := r.data }]
        touchesSetup := g.touchesSetup || (decide (d = 0) && inArea (setupBase st) r.start.toNat) } := by
  simp [Group.takeRun, Machine.takeRun, runAppends, h, entryTouchesSetup]

/-- A run within the newest entry of its device is written over it. -/
theorem takeRun_of_coalesces (st : Straps) {d : Nat} {g : Group} {r : Run} {es : List Entry}
    (h : coalesceNewest d r g.entries.reverse = some es) : Group.takeRun st d g r = { g with entries := es.reverse } := by
  simp [Group.takeRun, Machine.takeRun, runAppends, h]

theorem coalesceNewest_reverse {d : Nat} (r : Run) {older newer : List Entry} {e : Entry} (he : e.dev = d)
    (hn : ∀ x ∈ newer, x.dev ≠ d) :
    coalesceNewest d r (older ++ e :: newer).reverse =
      if e.holdsRun d r then some (newer.reverse ++ e.overwrite r :: older.reverse) else none := by
  simpa using coalesceNewest_at d r newer.reverse e older.reverse (by simpa using hn) he

/-! ## Staged frames -/

theorem Frame.handedMark_of_cls {f : Frame} (k : EndKind) (h : f.cls ≠ .mark) : f.handedMark k = none := by
  simp [Frame.handedMark, h]

theorem Frame.handedMark_of_kind {k : EndKind} (f : Frame) (h : k ≠ .stop) : f.handedMark k = none := by
  simp [Frame.handedMark, h]

theorem execStop_plain {s s1 : State} {f : Frame} (hd : s.nothingDue) (hf : s.port.frame = some f)
    (hh : s.port.hold = .none) (hb : s.endBlock .stop f = s1) (hr : s1.relay = none) (hm : f.handedMark .stop = none)
    (hs : s1.settled) : exec .stop s = .next s1.clearFrame := by
  rw [← State.concludeFrame_plain hf hb hr hm hs]
  exact execStop_inFrame hd hf hh

/-- Settles O7: the stop's finalise claim takes the image's runs one at a time, coalesced or appended. -/
theorem stopFinalisesStagedFrame : Obligations.StopFinalisesStagedFrame := by
  refine ⟨fun s f hcalm hin hrelay hcls hdata => ?_, fun st d g r => ⟨fun hno => ?_, fun older e newer hes he hn => ?_⟩⟩
  · obtain ⟨hd, hs⟩ := hcalm
    obtain ⟨hf, hh, hdead⟩ := hin
    have hm : f.handedMark .stop = none := f.handedMark_of_cls _ (by simp [hcls])
    have hb : s.endBlock .stop f = s.finalise := by
      simp [State.endBlock, Frame.classAtEnd_of_hasData _ hdata, hcls, hdead]
    refine ⟨fun i hi => ?_, fun hi => ?_⟩
    · have hfin : s.finalise = s.releaseImage.updOpen fun g =>
          (cutRuns i.page).foldl (Group.takeRun s.setup.straps i.dev) g := by
        simp only [State.finalise, hi, runs_eq_cutRuns]
      exact execStop_plain hd hf hh (hb.trans hfin) hrelay hm hs
    · have hfin : s.finalise = s := by simp only [State.finalise, hi]
      exact execStop_plain hd hf hh (hb.trans hfin) hrelay hm hs
  · exact takeRun_of_appends st (coalesceNewest_absent d r _ (by simpa using hno))
  · have hco := coalesceNewest_reverse r (older := older) he hn
    rw [← hes] at hco
    refine ⟨fun hw => ?_, fun hw => ?_⟩
    · rw [takeRun_of_coalesces st (hco.trans (if_pos (by simpa [Entry.holdsRun] using ⟨he, hw⟩)))]
      simp [Entry.overwrite]
    · exact takeRun_of_appends st (hco.trans (if_neg (by simpa [Entry.holdsRun, he] using hw)))

/-! ## The other ends of a frame -/

theorem exec_start_inFrame {s : State} {f : Frame} (hd : s.nothingDue) (hr : s.inReset = false)
    (hf : s.port.frame = some f) (hh : s.port.hold = .none) :
    exec .start s = .next (s.concludeFrame .restart).beginFrame := execStart_inFrame hd hr hf hh

theorem exec_repeatedStart_inFrame {s : State} {f : Frame} (hd : s.nothingDue) (hr : s.inReset = false)
    (hf : s.port.frame = some f) (hh : s.port.hold = .none) :
    exec .repeatedStart s = .next (s.concludeFrame .restart).beginFrame := execRepeatedStart_inFrame hd hr hf hh

theorem exec_misplacedStart_inFrame {s : State} {f : Frame} (hd : s.nothingDue) (hf : s.port.frame = some f)
    (hh : s.port.hold = .none ∨ s.port.holdTimer = none) :
    exec (.misplacedCondition true) s = .next (s.concludeFrame .abnormal).beginFrame :=
  execMisplacedCondition_inFrame true hd hf hh

theorem exec_misplacedStop_inFrame {s : State} {f : Frame} (hd : s.nothingDue) (hf : s.port.frame = some f)
    (hh : s.port.hold = .none ∨ s.port.holdTimer = none) :
    exec (.misplacedCondition false) s = .next (s.concludeFrame .abnormal) :=
  execMisplacedCondition_inFrame false hd hf hh

theorem exec_idleTimerExpiry_inFrame {s : State} {f : Frame} (hd : s.nothingDue) (hf : s.port.frame = some f)
    (hi : s.port.idleTimer ≠ none) : exec .idleTimerExpiry s = .next (s.concludeFrame .abnormal) :=
  execIdleTimerExpiry_inFrame hd hf hi

/-- The state without the image of a staged frame. -/
def State.imageDropped (f : Frame) (s : State) : State :=
  { s with store := if f.cls = .staged then { s.store with image := none } else s.store }

/-- At any end but a stop a staged, MARK or REFUSED frame, or a header cut short, leaves at most an image to release
(R31, R133, R134). -/
theorem State.endBlock_drops {s : State} {f : Frame} {k : EndKind} (hk : k ≠ .stop)
    (h : (f.cls = .staged ∧ f.hasData) ∨ (f.cls = .mark ∧ f.hasData) ∨ (f.cls = .refused ∧ f.hasData)
      ∨ (f.cls = .undecided ∧ f.headerBytes < 3)) : s.endBlock k f = s.imageDropped f := by
  rcases h with ⟨hc, hdata⟩ | ⟨hc, hdata⟩ | ⟨hc, hdata⟩ | ⟨hc, hheader⟩
  · simp [State.endBlock, Frame.classAtEnd_of_hasData _ hdata, hc, hk, State.imageDropped, State.releaseImage,
      State.updStore]
  · simp [State.endBlock, Frame.classAtEnd_of_hasData _ hdata, hc, State.imageDropped]
  · simp [State.endBlock, Frame.classAtEnd_of_hasData _ hdata, hc, State.imageDropped]
  · simp [State.endBlock, Frame.classAtEnd_of_header _ hheader, hc, State.imageDropped]

/-- Settles O8: at these ends only the image is released, whichever row ends the frame. -/
theorem otherEndsDropTheFrame : Obligations.OtherEndsDropTheFrame := by
  intro s f hcalm hin hreset hrelay hcls
  obtain ⟨hd, hs⟩ := hcalm
  obtain ⟨hf, hh, -⟩ := hin
  have hend : ∀ k, k ≠ .stop → s.concludeFrame k = (s.imageDropped f).clearFrame := fun k hk =>
    State.concludeFrame_plain hf (State.endBlock_drops hk hcls) hrelay (f.handedMark_of_kind hk) hs
  refine ⟨fun c hc => ?_, ?_, fun hi => ?_⟩
  · rcases hc with rfl | rfl | rfl
    · rw [exec_start_inFrame hd hreset hf hh, hend .restart nofun]; rfl
    · rw [exec_repeatedStart_inFrame hd hreset hf hh, hend .restart nofun]; rfl
    · rw [exec_misplacedStart_inFrame hd hf (.inl hh), hend .abnormal nofun]; rfl
  · rw [exec_misplacedStop_inFrame hd hf (.inl hh), hend .abnormal nofun]; rfl
  · rw [exec_idleTimerExpiry_inFrame hd hf hi, hend .abnormal nofun]; rfl

/-! ## Headers alone and posted frames -/

/-- The slot found is COLLECTING. -/
theorem ForwardQueue.collectingSlot_some {q : ForwardQueue} {i : SlotId} (h : q.collectingSlot = some i) :
    ∃ d a p, q.get i = .collecting d a p := by
  have hc : ∀ x : Slot, x.isCollecting = true → ∃ d a p, x = .collecting d a p := by
    intro x hx
    cases x with
    | collecting d a p => exact ⟨d, a, p, rfl⟩
    | free | waiting d rs | performing d rs => cases hx
  unfold ForwardQueue.collectingSlot at h
  split at h
  · cases h; exact hc q.one ‹_›
  · split at h
    · cases h; exact hc q.two ‹_›
    · cases h

theorem ForwardQueue.get_set (q : ForwardQueue) (i : SlotId) (v : Slot) : (q.set i v).get i = v := by
  cases i <;> rfl

theorem ForwardQueue.set_set (q : ForwardQueue) (i : SlotId) (v w : Slot) : (q.set i v).set i w = q.set i w := by
  cases i <;> rfl

theorem State.endPosted_of_none (queued : Bool) {s : State} (h : s.forward.collectingSlot = none) :
    s.endPosted queued = s := by
  simp only [State.endPosted, h]

theorem State.endPosted_dropped {s : State} {i : SlotId} (h : s.forward.collectingSlot = some i) :
    s.endPosted false = s.setSlot i .free := by
  obtain ⟨d, a, p, hg⟩ := ForwardQueue.collectingSlot_some h
  simp [State.endPosted, h, hg]

theorem State.endPosted_queued {s : State} {i : SlotId} {d : Nat} {a : Word} {p : PageImage}
    (h : s.forward.collectingSlot = some i) (hg : s.forward.get i = .collecting d a p) :
    s.endPosted true = (s.setSlot i (.waiting d (cutRuns p))).placeUp (.posted i) := by
  simp [State.endPosted, h, hg, runs_eq_cutRuns]

/-- Settles O9: a header alone is ADDRESS-SET at a well-placed end, and frees the slot a POSTED header reserved. -/
theorem headerAloneOnlySetsTheAddress : Obligations.HeaderAloneOnlySetsTheAddress := by
  intro s f hcalm hin hreset hrelay hheader hacked hrefused hmark
  obtain ⟨hd, hs⟩ := hcalm
  obtain ⟨hf, hh, -⟩ := hin
  have hclass : ∀ k, k ≠ .abnormal → f.classAtEnd k = .addressSet := fun k hk => by
    simp [Frame.classAtEnd, hk, hheader, hacked, hrefused]
  have hhanded : ∀ k, f.handedMark k = none := fun k => by simp [Frame.handedMark, hmark]
  have hblock : ∀ k, k ≠ .abnormal → s.endBlock k f =
      { s with
        forward := match s.forward.collectingSlot with
          | some i => s.forward.set i .free
          | none => s.forward } := by
    intro k hk
    have hend : s.endBlock k f = s.endPosted false := by simp [State.endBlock, hclass k hk, hacked]
    rw [hend]
    cases hc : s.forward.collectingSlot with
    | none => exact State.endPosted_of_none _ hc
    | some i => exact State.endPosted_dropped hc
  have hconclude : ∀ k, k ≠ .abnormal → s.concludeFrame k = _ := fun k hk =>
    State.concludeFrame_plain hf (hblock k hk) hrelay (hhanded k) hs
  refine ⟨?_, ?_⟩
  · rw [show exec .stop s = _ from execStop_inFrame hd hf hh, hconclude .stop nofun]; rfl
  · rw [exec_repeatedStart_inFrame hd hreset hf hh, hconclude .restart nofun]; rfl

/-- A grant to a waiting posted write whose device is READY sends its frame (R139, R154). -/
theorem State.openGrant_posted_ready {s : State} {i : SlotId} {d : Nat} {rs : List Run}
    (hw : s.forward.get i = .waiting d rs) (hd : s.devState d = .ready) :
    s.openGrant (.posted i) =
      { s with
        forward := s.forward.set i (.performing d rs)
        down :=
          { s.down with
            activity := .write (s.addrOf d) ((rs.head?.map Run.start).getD 0) (rs.flatMap Run.data) } } := by
  have hgranted : s.granted (.posted i) = s.setSlot i (.performing d rs) := by simp [State.granted, hw]
  have hget : (s.setSlot i (.performing d rs)).forward.get i = .performing d rs := ForwardQueue.get_set _ _ _
  have htarget : (s.setSlot i (.performing d rs)).target (.posted i) = some d := by
    simp only [State.target, hget, Slot.dev]
  have hdev : (s.setSlot i (.performing d rs)).devState d = .ready := hd
  simp only [State.openGrant, hgranted, htarget, hdev, State.sendFrame, hget]
  rfl

/-- A posted write that is queued alone at a free bus is granted and sent, if its device is READY (R139, R151, R154). -/
theorem State.conclude_posted_ready (s0 : State) {s : State} {i : SlotId} {d : Nat} {rs : List Run}
    (hg : s.down.grant = none) (hu : s.down.upFifo = [.posted i]) (hi : s.down.intReqs = [])
    (hw : s.forward.get i = .waiting d rs) (hd : s.devState d = .ready) :
    s0.conclude s =
      { s with
        forward := s.forward.set i (.performing d rs)
        down :=
          { s.down with
            upFifo := [], grant := some (.posted i), detections := 0, ended := false, speed := s.setup.tables.speed
            activity := .write (s.addrOf d) ((rs.head?.map Run.start).getD 0) (rs.flatMap Run.data) } } := by
  have hc : ∀ raced, s.choose raced = some (.posted i, { s with down := { s.down with upFifo := [] } }) := by
    intro raced
    unfold State.choose
    rw [hu, hi]
    rfl
  have ho := State.openGrant_posted_ready
    (s := State.award (.posted i) { s with down := { s.down with upFifo := [] } }) hw hd
  unfold State.conclude
  rw [State.grantLoop_step _ hg (hc _), ho]
  exact State.grantLoop_granted _ _ rfl

/-- Settles O10: the stop with acknowledged data queues the write; every other end frees its slot. -/
theorem postedFrameEnds : Obligations.PostedFrameEnds := by
  refine ⟨fun s f i d a p hcalm hin hrelay hcls hacked hi hg => ?_,
    fun s f i d a p hcalm hin hreset hrelay hcls hdata hi _ => ?_⟩
  · obtain ⟨hd, hs⟩ := hcalm
    obtain ⟨hf, hh, hdead⟩ := hin
    have hblock : s.endBlock .stop f = (s.setSlot i (.waiting d (cutRuns p))).placeUp (.posted i) := by
      rw [← State.endPosted_queued hi hg]
      simp [State.endBlock, Frame.classAtEnd_of_hasData _ (.inl hacked), hcls, hdead, hacked]
    have hend := State.endFrame_plain hf hblock hrelay (f.handedMark_of_cls .stop (by simp [hcls]))
    have hstop : exec .stop s = .next (s.conclude (s.endFrame .stop)) := execStop_inFrame hd hf hh
    rw [hstop, hend]
    refine ⟨fun hgrant => ?_, fun hgrant hready => ?_⟩
    · have hsettled : (((s.setSlot i (.waiting d (cutRuns p))).placeUp (.posted i)).clearFrame).settled := .inl hgrant
      rw [State.conclude_settled s hsettled]; rfl
    · have hqueues : s.down.upFifo = [] ∧ s.down.intReqs = [] := hs.resolve_left fun h => h hgrant
      obtain ⟨hu, hint⟩ := hqueues
      have hgo := State.conclude_posted_ready s
        (s := ((s.setSlot i (.waiting d (cutRuns p))).placeUp (.posted i)).clearFrame) (i := i) hgrant
        (by simp [State.placeUp, State.updDown, hu]) hint (ForwardQueue.get_set _ _ _) hready
      rw [hgo]
      simp [State.setSlot, State.updForward, State.placeUp, State.updDown, State.clearFrame_eq, ForwardQueue.set_set]
      rfl
  · obtain ⟨hd, hs⟩ := hcalm
    obtain ⟨hf, hh, -⟩ := hin
    have hend : ∀ k, (k = .stop → f.acked = 0) → s.concludeFrame k = (s.setSlot i .free).clearFrame := by
      intro k hk
      have hblock : s.endBlock k f = s.setSlot i .free := by
        rw [← State.endPosted_dropped hi]
        have hnone : ¬ (k = .stop ∧ f.dead = false ∧ 0 < f.acked) := fun ⟨hstop, _, hpos⟩ =>
          Nat.ne_of_gt hpos (hk hstop)
        simp only [State.endBlock, Frame.classAtEnd_of_hasData _ hdata, hcls, hnone, decide_false]
      exact State.concludeFrame_plain hf hblock hrelay (f.handedMark_of_cls k (by simp [hcls])) hs
    refine ⟨fun hacked => ?_, ?_, ?_, ?_, fun hidle => ?_⟩
    · rw [show exec .stop s = _ from execStop_inFrame hd hf hh, hend .stop fun _ => hacked]; rfl
    · rw [exec_repeatedStart_inFrame hd hreset hf hh, hend .restart nofun]; rfl
    · rw [exec_misplacedStart_inFrame hd hf (.inl hh), hend .abnormal nofun]; rfl
    · rw [exec_misplacedStop_inFrame hd hf (.inl hh), hend .abnormal nofun]; rfl
    · rw [exec_idleTimerExpiry_inFrame hd hf hidle, hend .abnormal nofun]; rfl

/-! ## Marks -/

/-- The row of a mark is the mark's event, whatever its value (section 6.2). -/
theorem exec_markCommand (v : Byte) (s : State) : exec (markCommand v) s = onEvent (fun s => s.markEvent v) s := by
  unfold markCommand
  split
  · next h => subst h; rfl
  · split
    · next h0 hle =>
      have hw : (Instr.seal v).wellFormed = true := by
        have : v.toNat ≠ 0 := fun h => h0 (BitVec.eq_of_toNat_eq h)
        simp only [Instr.wellFormed, decide_eq_true_eq]
        omega
      change onEvent (fun s => if (Instr.seal v).wellFormed then s.markEvent v else illFormed) s = _
      simp only [hw, if_true]
    · split
      · next h => subst h; rfl
      · split
        · next h => subst h; rfl
        · split
          · next h => subst h; rfl
          · split
            · next h => subst h; rfl
            · next h0 hle h1 h2 h3 h4 =>
              have hw : (Instr.invalidMark v).wellFormed = true := by
                simp only [Instr.wellFormed, decide_eq_true_eq]
                bv_omega
              change onEvent (fun s => if (Instr.invalidMark v).wellFormed then s.markEvent v else illFormed) s = _
              simp only [hw, if_true]

/-- Settles O11: the stop of a MARK frame is the event of its mark's row. -/
theorem stopActsOnTheMark : Obligations.StopActsOnTheMark := by
  intro s f v hd hin hrelay hgate hcls hmark hacked
  obtain ⟨hf, hh, hdead⟩ := hin
  have hcarries : f.carries v = true := by simp [Frame.carries, hcls, hdead, hmark]
  have hstop : exec .stop s = .next (s.concludeFrame .stop) := execStop_inFrame hd hf hh
  have hmark : s.markEvent v = .next (s.concludeFrame .stop) := by simp [State.markEvent, hgate, hf, hcarries, hh]
  have harrives : s.markArrives v := ⟨hgate, .inr ⟨f, hf, hcarries, hh, hacked, hrelay⟩⟩
  have heq : s.concludeFrame .stop = s.conclude (s.frameOver.actOnMark v) :=
    Host.Outcome.next.inj (hmark.symm.trans (markEvent_arrives harrives))
  refine ⟨?_, _, hstop, ?_⟩
  · rw [hstop, exec_markCommand]
    exact (onEvent_of_next hd hmark).symm
  · rw [heq]
    simp [State.actOnMark]

/-! ## READ frames -/

/-- A READ frame's end: no phase, no snapshot, and the downstream port as R97 leaves it. -/
theorem State.endRead_eq (s : State) :
    s.endRead = { s with read := { s.read with phase := .none, snapshot := none }, down := readEndedPort s } := by
  unfold State.endRead readEndedPort
  by_cases hs : s.down.grant = some .read ∧ s.down.ended = false
  · have hserving : s.serving .read = true := by simpa [State.serving] using hs
    simp only [hs, hserving, State.windUpRead]
    by_cases hw : s.down.clearing = true ∨ s.down.poll.isSome = true
    · simp [hw, hs, State.markEnded, State.updDown, State.updRead]
    · cases ha : s.down.activity <;>
        simp [hw, ha, hs, State.freeBus, State.markEnded, State.beginClosing, State.setActivity, State.updDown, State.updRead]
  · have hserving : s.serving .read = false := by simpa [State.serving] using hs
    simp [hserving, hs, State.withdraw, State.updDown, State.updRead]

theorem readEndedPort_settled {s t : State} (hs : s.settled)
    (hg : s.down.grant = some .read → s.down.ended = false → s.down.upFifo = [] ∧ s.down.intReqs = [])
    (ht : t.down = readEndedPort s) : t.settled := by
  unfold State.settled
  rw [ht]
  unfold readEndedPort
  split
  · next h =>
    obtain ⟨hgrant, hended⟩ := h
    obtain ⟨hu, hi⟩ := hg hgrant hended
    split
    · exact .inr ⟨hu, hi⟩
    · split <;> exact .inr ⟨hu, hi⟩
  · rcases hs with hs | ⟨hu, hi⟩
    · exact .inl hs
    · exact .inr ⟨by simp [hu], hi⟩

/-- Closing conditions that leave no home device to poll: the grant goes back if the upstream side has ended. -/
theorem State.takeClosing_of_closing {s : State} {how : Closing} {home : Bool} (ha : s.down.activity = .closing how home)
    (hc : s.down.clearing = false) (hs : (s.closed home).settled) : s.takeClosing = s.closed home := by
  simp [State.takeClosing, ha, hc, State.conclude_settled s hs]

/-- Settles O12: every end of a READ frame winds its downstream side up in the same way. -/
theorem readFrameEnds : Obligations.ReadFrameEnds := by
  refine ⟨fun s f hcalm hf hreset hrelay hcls hheader hqueues => ?_, fun s how ha hc hg => ⟨fun he hu hi => ?_, fun he => ?_⟩⟩
  · obtain ⟨hd, hs⟩ := hcalm
    have hend : ∀ k, s.concludeFrame k
        = ({ s with read := { s.read with phase := .none, snapshot := none }, down := readEndedPort s }).clearFrame := by
      intro k
      have hblock : s.endBlock k f = s.endRead := by
        simp only [State.endBlock, Frame.classAtEnd_of_header _ hheader, hcls]
      exact State.concludeFrame_plain hf (hblock.trans s.endRead_eq) hrelay (f.handedMark_of_cls k (by simp [hcls]))
        (readEndedPort_settled hs hqueues rfl)
    refine ⟨fun hh => ⟨?_, ?_, ?_⟩, fun hh => ⟨?_, ?_⟩, fun hi => ?_⟩
    · rw [show exec .stop s = _ from execStop_inFrame hd hf hh, hend]; rfl
    · rw [exec_start_inFrame hd hreset hf hh, hend]; rfl
    · rw [exec_repeatedStart_inFrame hd hreset hf hh, hend]; rfl
    · rw [exec_misplacedStart_inFrame hd hf (.inr hh), hend]; rfl
    · rw [exec_misplacedStop_inFrame hd hf (.inr hh), hend]; rfl
    · rw [exec_idleTimerExpiry_inFrame hd hf hi, hend]; rfl
  · have hclosed : s.closed false = s.freeBus := by simp [State.closed, he]
    rw [State.takeClosing_of_closing ha hc (hclosed ▸ .inr ⟨hu, hi⟩), hclosed]
    rfl
  · have hclosed : s.closed false = s.setActivity .none := by simp [State.closed, he]
    have hs : (s.setActivity .none).settled := .inl (by simp [hg])
    rw [State.takeClosing_of_closing ha hc (hclosed ▸ hs), hclosed]
    rfl

end Sys2Proof.Machine
end

section
/-! PROOF. How a relay ends with its frame (R144, R145): closed at a stop, passed on at a repeated start, wound up at an
abnormal end (O13). -/

namespace Sys2Proof.Machine

theorem Relay.closing_eq (r : Relay) : r.closing = windUpClosing r := by
  unfold Relay.closing windUpClosing
  cases r.stage <;> cases r.direction <;> rfl

/-- The report of a relayed home write, as its frame's stop gives it (R20). -/
theorem State.reportRelay_eq (r : Relay) (s : State) :
    s.reportRelay r =
      { s with
        setup :=
          if (r.home.map fun h => h.byteRelayed && inArea (setupBase s.setup.straps) h.start.toNat) = some true then
            match s.setup.attempt with
            | .none => { s.setup with attempt := .awaitPoll }
            | .awaitPoll | .requested => s.setup
            | .granted => { s.setup with kept := true }
          else s.setup } := by
  have hloads : r.loads s.setup.straps = true ↔
      (r.home.map fun h => h.byteRelayed && inArea (setupBase s.setup.straps) h.start.toNat) = some true := by
    unfold Relay.loads
    cases r.home <;> simp
  unfold State.reportRelay
  by_cases hl : r.loads s.setup.straps = true
  · rw [if_pos hl, if_pos (hloads.1 hl)]
    rfl
  · rw [if_neg hl, if_neg (mt hloads.2 hl)]

/-- The frame of a relay, or the one that a repeated start has just begun: its end has no block of its own. -/
theorem State.endBlock_relayFrame {s : State} {f : Frame} {k : EndKind} (hk : k = .abnormal ∨ s.port.hold = .none)
    (h : (f.cls = .relay ∧ (f.headerBytes = 1 ∨ f.hasData ∨ s.port.hold ≠ .none))
      ∨ (f.cls = .undecided ∧ f.headerBytes = 0)) : s.endBlock k f = s ∧ f.handedMark k = none := by
  have hcls : f.cls = .relay ∨ f.cls = .undecided := h.imp And.left And.left
  have hclass : f.classAtEnd k = f.cls := by
    rcases h with ⟨-, hb | hdata | hh⟩ | ⟨-, hb⟩
    · exact Frame.classAtEnd_of_header k (by omega)
    · exact Frame.classAtEnd_of_hasData k hdata
    · have hk : k = .abnormal := hk.resolve_right hh
      simp [Frame.classAtEnd, hk]
    · exact Frame.classAtEnd_of_header k (by omega)
  rcases hcls with hcls | hcls
  · exact ⟨by simp only [State.endBlock, hclass, hcls], f.handedMark_of_cls k (by simp [hcls])⟩
  · exact ⟨by simp only [State.endBlock, hclass, hcls], f.handedMark_of_cls k (by simp [hcls])⟩

/-- An open relay that is served leaves its frame with its upstream side ended. -/
theorem State.leaveRelay_served {s : State} {r : Relay} (onOpen : Relay → State → State) (hr : s.relay = some r)
    (ho : r.opened = true) (hg : s.down.grant = some .relay) (he : s.down.ended = false)
    (hc : s.down.clearing = false) (hp : s.down.poll = none) :
    s.leaveRelay onOpen = onOpen r s.dropRelay.markEnded :=
  State.leaveRelay_open onOpen hr (by simp [State.serving, hg, he]) hc hp ho

/-- Settles O13: with the relay open and served, the frame's end is the relay's close, its passing on, or its winding
up. -/
theorem relayEndsAtTheCondition : Obligations.RelayEndsAtTheCondition := by
  refine ⟨fun s f r hd hf hdead hreset hcls hr ho hstuck hg he hc hp => ?_,
    fun s how home st ha hc hg he hconf hst hu hi => ?_⟩
  · have hfin : ∀ k, k = .abnormal ∨ s.port.hold = .none → (s.endRelay k f).down.grant = some .relay →
        s.concludeFrame k = (s.endRelay k f).clearFrame := by
      intro k hk hgrant
      obtain ⟨hblock, hmark⟩ := State.endBlock_relayFrame hk hcls
      rw [State.concludeFrame, State.endFrame_relay hf hblock hmark]
      exact State.conclude_settled s (.inl (by simp [State.clearFrame_eq, hgrant]))
    have hwind : s.endRelay .abnormal f
        = { s with relay := none, down := { s.down with ended := true, activity := r.windUp } } := by
      simp only [State.endRelay, hr, State.windUpRelay, State.leaveRelay_served _ hr ho hg he hc hp]
      rfl
    intro closing windingUp
    have hwinding : windingUp = { s.down with ended := true, activity := r.windUp } := by
      simp only [windingUp, Relay.windUp, Relay.byteInFlight, Relay.closing_eq, windUpClosing]
      cases r.stage <;> rfl
    have habnormal : s.concludeFrame .abnormal = ({ s with relay := none, down := windingUp }).clearFrame := by
      rw [hfin .abnormal (.inl rfl) (by rw [hwind]; exact hg), hwind, hwinding]
    refine ⟨fun hh => ⟨?_, ?_⟩, fun hh => ⟨?_, ?_⟩, fun hi => ?_⟩
    · have hstop : s.endRelay .stop f = s.closeRelay (decide (f.cls = .relay ∧ f.dead = false)) := by
        simp only [State.endRelay, hr]
      have hclose : s.endRelay .stop f =
          { s with
            relay := none, down := closing
            setup :=
              if f.cls = .relay ∧ (r.home.map fun h =>
                  h.byteRelayed && inArea (setupBase s.setup.straps) h.start.toNat) = some true
                then
                  match s.setup.attempt with
                  | .none => { s.setup with attempt := .awaitPoll }
                  | .awaitPoll | .requested => s.setup
                  | .granted => { s.setup with kept := true }
              else s.setup } := by
        rw [hstop, State.closeRelay, State.leaveRelay_served _ hr ho hg he hc hp]
        by_cases hrelay : f.cls = .relay
        · simp only [hrelay, hdead, true_and, decide_true, if_true, State.reportRelay_eq]
          rfl
        · simp only [hrelay, false_and, decide_false, if_false]
          rfl
      rw [show exec .stop s = _ from execStop_inFrame hd hf hh, hfin .stop (.inr hh) (by rw [hclose]; exact hg), hclose]
      rfl
    · have hpass : s.endRelay .restart f = { s with relay := some { r with stage := .restarted, naked := false } } := by
        simp only [State.endRelay, hr, hstuck, if_false]
        rfl
      rw [exec_repeatedStart_inFrame hd hreset hf hh, hfin .restart (.inr hh) (by rw [hpass]; exact hg), hpass]
      rfl
    · rw [exec_misplacedStart_inFrame hd hf (.inr hh), habnormal]; rfl
    · rw [exec_misplacedStop_inFrame hd hf (.inr hh), habnormal]; rfl
    · rw [exec_idleTimerExpiry_inFrame hd hf hi, habnormal]; rfl
  · cases home with
    | false =>
      have hclosed : s.closed false = s.freeBus := by simp [State.closed, he]
      rw [State.takeClosing_of_closing ha hc (hclosed ▸ .inr ⟨hu, hi⟩), hclosed]
      rfl
    | true =>
      have hconf : s.setup.config = .unconfigured := hconf.resolve_right nofun
      have hst : s.down.states = [st] := hst.resolve_right nofun
      have hindex : s.indexOf (homeAddr s.setup.straps) = some 0 := by simp [State.indexOf, hconf]
      have hclosed : s.closed true = { s with down := relayClosedPort s true } := by
        simp [State.closed, State.pollAfterWrite, State.setStateAt, hindex, State.setDevState, State.updDown, hst,
          relayClosedPort, he]
      rw [State.takeClosing_of_closing ha hc (hclosed ▸ .inl ?_), hclosed]
      simp [relayClosedPort, hg]

end Sys2Proof.Machine
end

section
/-! PROOF. The bytes on the upstream segment (sections 7.3 to 7.6): bytes without a live frame, device bytes and what
they request, headers and data bytes (O14 to O22). -/

namespace Sys2Proof.Machine

/-! ## The commands of a byte, where the byte is in place -/

theorem exec_deviceByte_dead {s : State} {f : Frame} (b : Byte) (hd : s.nothingDue) (hf : s.port.frame = some f)
    (hdead : f.dead = true) : exec (.deviceByte b) s = .next (s.answerWith false) := by
  change execDeviceByte b s = _
  exact onEvent_of_next hd (by simp [hf, hdead])

theorem exec_wordAddressByte_dead {s : State} {f : Frame} (b : Byte) (hd : s.nothingDue) (hf : s.port.frame = some f)
    (hdead : f.dead = true) : exec (.wordAddressByte b) s = .next (s.answerWith false) := by
  change execWordAddressByte b s = _
  exact onEvent_of_next hd (by simp [hf, hdead])

theorem exec_dataByte_dead {s : State} {f : Frame} (b : Byte) (hd : s.nothingDue) (hf : s.port.frame = some f)
    (hdead : f.dead = true) : exec (.dataByte b) s = .next (s.answerWith false) := by
  change execDataByte b s = _
  exact onEvent_of_next hd (by simp [hf, hdead])

theorem exec_controllerAnswer_dead {s : State} {f : Frame} (ack : Bool) (hd : s.nothingDue) (hf : s.port.frame = some f)
    (hdead : f.dead = true) : exec (.controllerAnswer ack) s = .next s := by
  change execControllerAnswer ack s = _
  exact onEvent_of_next hd (by simp [hf, hdead])

/-- Settles O14: a dead frame's bytes get a NAK, and bytes in no frame are nothing. -/
theorem bytesWithoutALiveFrame : Obligations.BytesWithoutALiveFrame := by
  intro s hd
  refine ⟨fun f hf hdead => ⟨fun b c hc => ?_, fun ack => exec_controllerAnswer_dead ack hd hf hdead⟩,
    fun hf b ack c hc => ?_⟩
  · rcases hc with rfl | rfl | rfl
    · exact exec_deviceByte_dead b hd hf hdead
    · exact exec_wordAddressByte_dead b hd hf hdead
    · exact exec_dataByte_dead b hd hf hdead
  · rcases hc with rfl | rfl | rfl | rfl
    · change execDeviceByte b s = _
      exact onEvent_of_next hd (by simp [hf])
    · change execWordAddressByte b s = _
      exact onEvent_of_next hd (by simp [hf])
    · change execDataByte b s = _
      exact onEvent_of_next hd (by simp [hf])
    · change execControllerAnswer ack s = _
      exact onEvent_of_next hd (by simp [hf])

/-! ## Device bytes -/

theorem byteAddr_append (a : DevAddr) (x : BitVec 1) : byteAddr (a ++ x) = a := BitVec.extractLsb'_append_eq_left

theorem byteDirection_append (a : DevAddr) (x : BitVec 1) :
    byteDirection (a ++ x) = if x.getLsbD 0 then .read else .write := by
  have hbit : (a ++ x).getLsbD 0 = x.getLsbD 0 := BitVec.getLsbD_append.trans (if_pos Nat.zero_lt_one)
  exact congrArg (fun c : Bool => if c then Direction.read else Direction.write) hbit

theorem byteDirection_write (a : DevAddr) : byteDirection (a ++ 0#1) = .write := byteDirection_append a 0#1

theorem byteDirection_read (a : DevAddr) : byteDirection (a ++ 1#1) = .read := byteDirection_append a 1#1

theorem State.closePending_of_no_relay {s : State} (hs : s.settled) (hr : s.relay = none) : s.closePending = s := by
  unfold State.closePending State.closeRelay
  rw [State.leaveRelay_none _ hr]
  exact State.conclude_settled s hs

/-- The device byte of a frame that is live, the gate being OPEN (R120). -/
theorem exec_deviceByte_open {s : State} {f : Frame} (b : Byte) (hd : s.nothingDue) (hin : s.inFrame f)
    (hb : f.headerBytes = 0) (hg : s.port.gate = .opn) :
    exec (.deviceByte b) s = .next (s.closePending.conclude (s.classDeviceByte b)) := by
  obtain ⟨hf, hh, hdead⟩ := hin
  change execDeviceByte b s = _
  exact onEvent_of_next hd (by simp [hf, hdead, hh, hb, hg])

theorem exec_deviceByte_refusing {s : State} {f : Frame} (b : Byte) (hd : s.nothingDue) (hin : s.inFrame f)
    (hb : f.headerBytes = 0) (hg : s.port.gate = .refusing) :
    exec (.deviceByte b) s = .next (s.closePending.deviceByteRefused b) := by
  obtain ⟨hf, hh, hdead⟩ := hin
  change execDeviceByte b s = _
  exact onEvent_of_next hd (by simp [hf, hdead, hh, hb, hg])

/-- A write to a served device, its relay, if any, closed before (R120). -/
theorem State.beginHeader_eq {s : State} {f : Frame} (hf : s.port.frame = some f) (a : DevAddr) (i : Nat) :
    s.beginHeader (a ++ 0#1) i =
      { s with
        port :=
          { s.port with
            frame := some
              { f with direction := some .write, devAddr := a, dev := some i, cls := .undecided, headerBytes := 1 }
            answer := some true } } := by
  simp [State.beginHeader, State.classFrame, State.updFrame, State.updPort, State.answerWith, hf, byteDirection_write,
    byteAddr_append]

theorem State.classDeviceByte_write {s : State} {a : DevAddr} {i : Nat} (hi : s.indexOf a = some i) :
    s.classDeviceByte (a ++ 0#1) = s.closePending.beginHeader (a ++ 0#1) i := by
  simp only [State.classDeviceByte, byteAddr_append, hi, byteDirection_write]

theorem State.classDeviceByte_read {s : State} {a : DevAddr} {i : Nat} (hi : s.indexOf a = some i) :
    s.classDeviceByte (a ++ 1#1) = s.closePending.beginRead (a ++ 1#1) i := by
  simp only [State.classDeviceByte, byteAddr_append, hi, byteDirection_read]

/-- Settles O15: while REFUSING the byte is refused, and a served write's is acknowledged while OPEN. -/
theorem deviceByteAtTheGate : Obligations.DeviceByteAtTheGate := by
  refine ⟨fun s f b hcalm hin hb hr hg => ?_, fun s f a i hcalm hin hb hr hg hi => ?_⟩
  · obtain ⟨hd, hs⟩ := hcalm
    have hf := hin.1
    refine ⟨_, { f with direction := some (byteDirection b), devAddr := byteAddr b, dev := none, cls := .undecided,
                        headerBytes := 1, dead := true }, exec_deviceByte_refusing b hd hin hb hg, rfl, ?_⟩
    rw [State.closePending_of_no_relay hs hr]
    simp [State.deviceByteRefused, State.classFrame, State.killFrame, State.answerWith, State.updFrame, State.updPort, hf]
  · obtain ⟨hd, hs⟩ := hcalm
    rw [exec_deviceByte_open _ hd hin hb hg, State.classDeviceByte_write hi, State.closePending_of_no_relay hs hr,
      State.beginHeader_eq hin.1, State.conclude_settled s (by exact hs)]

/-! ## Requests of the upstream frames -/

/-- With the bus free and one upstream request waiting, that request is awarded and opened, and takes the bus (R151). -/
theorem State.conclude_upFifo (s0 : State) {s : State} {r : Requester} (hg : s.down.grant = none)
    (hu : s.down.upFifo = [r]) (hi : s.down.intReqs = [])
    (ht : ((State.award r { s with down := { s.down with upFifo := [] } }).openGrant r).down.grant ≠ none) :
    s0.conclude s = (State.award r { s with down := { s.down with upFifo := [] } }).openGrant r := by
  have hc : ∀ raced, s.choose raced = some (r, { s with down := { s.down with upFifo := [] } }) := by
    intro raced
    unfold State.choose
    rw [hu, hi]
    rfl
  unfold State.conclude
  rw [State.grantLoop_step _ hg (hc _)]
  exact State.grantLoop_settled _ _ (.inl ht)

/-- A READ frame's device byte is held and its request placed (R86, R120). -/
theorem State.beginRead_eq {s : State} {f : Frame} (hf : s.port.frame = some f) (a : DevAddr) (i : Nat) :
    s.beginRead (a ++ 1#1) i =
      { readRequested s f a i with down := { s.down with upFifo := s.down.upFifo ++ [.read] } } := by
  simp [State.beginRead, State.classFrame, State.updFrame, State.updPort, State.decideHold, State.updRead, State.placeUp,
    State.updDown, hf, byteDirection_read, byteAddr_append, readRequested]

/-- The grant of a READ frame meets its device READY (R88, R154). -/
theorem State.openGrant_read_ready {s : State} (h : s.devState s.read.dev = .ready) :
    s.openGrant .read =
      { s with
        read := { s.read with phase := .opening }
        down := { s.down with activity := .header (s.addrOf s.read.dev) (s.pointer s.read.dev) } } := by
  have hdev : (s.updRead fun r => { r with phase := .opening }).devState s.read.dev = .ready := h
  simp only [State.openGrant, State.granted, State.target, State.updRead_read, hdev, State.sendFrame, if_true]
  rfl

/-- The grant of a READ frame meets its device BUSY (R154, R155). -/
theorem State.openGrant_read_busy {s : State} (h : s.devState s.read.dev = .busy) :
    s.openGrant .read =
      { s with
        read := { s.read with phase := .opening }
        down :=
          { s.down with
            poll := some
              { addr := s.addrOf s.read.dev, limit := s.setup.tables.pollLimit, followsWrite := false
                afterRefusal := false, attempt := true }
            activity := .none } } := by
  have hdev : (s.updRead fun r => { r with phase := .opening }).devState s.read.dev = .busy := h
  simp only [State.openGrant, State.granted, State.target, State.updRead_read, hdev]
  rfl

/-- The grant of a READ frame meets its device FAULTED (R87, R154). -/
theorem State.openGrant_read_faulted {s : State} (h : s.devState s.read.dev = .faulted) (he : s.down.ended = false) :
    s.openGrant .read = ((s.updRead fun r => { r with phase := .opening }).endPoll.setActivity .none).refuseRead := by
  have hdev : (s.updRead fun r => { r with phase := .opening }).devState s.read.dev = .faulted := h
  simp only [State.openGrant, State.granted, State.target, State.updRead_read, hdev, State.failOp, State.readFailed,
    State.updRead_down, he]
  rfl

/-- Settles O16: the request joins the FIFO, and at a free bus its grant is checked at once. -/
theorem servedReadIsRequested : Obligations.ServedReadIsRequested := by
  intro s f a i hcalm hin hb hr hgate hi u granted
  obtain ⟨hd, hs⟩ := hcalm
  have hexec : exec (.deviceByte (a ++ 1#1)) s
      = .next (s.conclude { u with down := { s.down with upFifo := s.down.upFifo ++ [.read] } }) := by
    rw [exec_deviceByte_open _ hd hin hb hgate, State.classDeviceByte_read hi, State.closePending_of_no_relay hs hr,
      State.beginRead_eq hin.1]
  refine ⟨fun hg => ?_, fun hg hready => ?_, fun hg hbusy => ?_, fun hg hfaulted => ?_⟩
  · have hsettled : ({ u with down := { s.down with upFifo := s.down.upFifo ++ [.read] } } : State).settled := .inl hg
    rw [hexec, State.conclude_settled s hsettled]
  all_goals
    obtain ⟨hu, hint⟩ : s.down.upFifo = [] ∧ s.down.intReqs = [] := hs.resolve_left fun h => h hg
    have hgo := State.conclude_upFifo s (s := { u with down := { s.down with upFifo := s.down.upFifo ++ [.read] } })
      (r := .read) hg (by simp [hu]) hint
  · have hopen := State.openGrant_read_ready (s := State.award .read { u with down := { s.down with upFifo := [] } })
      hready
    rw [hexec, hgo (by rw [hopen]; nofun), hopen]
    rfl
  · have hopen := State.openGrant_read_busy (s := State.award .read { u with down := { s.down with upFifo := [] } })
      hbusy
    rw [hexec, hgo (by rw [hopen]; nofun), hopen]
    rfl
  · have hopen := State.openGrant_read_faulted (s := State.award .read { u with down := { s.down with upFifo := [] } })
      hfaulted rfl
    rw [hexec, hgo (by rw [hopen]; nofun), hopen]
    exact ⟨_, rfl, rfl, rfl, rfl, rfl, rfl, rfl, rfl⟩

/-! ## Device bytes of a relay -/

/-- A relay is requested for a device byte that is held (R120, R142). -/
theorem State.beginRelay_eq {s : State} {f : Frame} {a : DevAddr} {d : Direction} {b : Byte}
    (hf : s.port.frame = some f) (ha : byteAddr b = a) (hd : byteDirection b = d) :
    s.beginRelay b =
      { relayRequested s f a d b .requested with down := { s.down with upFifo := s.down.upFifo ++ [.relay] } } := by
  simp [State.beginRelay, State.classFrame, State.updFrame, State.updPort, State.decideHold, State.updRelay,
    State.placeUp, State.updDown, hf, ha, hd, relayRequested]

/-- A relay left open by a repeated start goes on with the next device byte to its address (R133, R144). -/
theorem State.continueRelay_eq {s : State} {f : Frame} {a : DevAddr} {d : Direction} {b : Byte} {r : Relay}
    (hf : s.port.frame = some f) (ha : byteAddr b = a) (hd : byteDirection b = d) (hr : s.relay = some r)
    (hhome : r.home = none) (haddr : r.addr = a) (ho : r.opened = true) :
    s.continueRelay b = relayRequested s f a d b .deviceSent := by
  simp [State.continueRelay, State.classFrame, State.updFrame, State.updPort, State.decideHold, State.updRelay, hf, ha,
    hd, hr, hhome, haddr, ho, relayRequested]

theorem State.openGrant_relay {s : State} {r : Relay} (hr : s.relay = some r) (hh : r.home = none) :
    s.openGrant .relay = { s with relay := some { r with stage := .deviceSent, opened := true } } := by
  simp [State.openGrant, State.granted, State.updRelay, State.target, hr, hh, State.openRelay]

/-- Settles O17: the byte is relayed when the bus is granted, goes on in an open relay, or closes it. -/
theorem deviceByteOfARelay : Obligations.DeviceByteOfARelay := by
  refine ⟨fun s f a d b hcalm hin hb hgate hi hbyte => ?_, fun s f a i r hd hin hb hgate hi hr ho hg he hc hp => ?_⟩
  · obtain ⟨hd, hs⟩ := hcalm
    have ha : byteAddr b = a := by rw [hbyte]; exact byteAddr_append a _
    have hdir : byteDirection b = d := by
      rw [hbyte]
      cases d
      · exact byteDirection_write a
      · exact byteDirection_read a
    have hnew : s.relay = none → exec (.deviceByte b) s = .next (s.conclude
        { relayRequested s f a d b .requested with down := { s.down with upFifo := s.down.upFifo ++ [.relay] } }) := by
      intro hr
      have hclass : s.classDeviceByte b = s.closePending.beginRelay b := by
        simp [State.classDeviceByte, ha, hi, hr]
      rw [exec_deviceByte_open _ hd hin hb hgate, hclass, State.closePending_of_no_relay hs hr,
        State.beginRelay_eq hin.1 ha hdir]
    refine ⟨fun hr hg => ?_, fun hr hg => ?_, fun r hr hstage hhome haddr ho => ?_⟩
    · exact (hnew hr).trans (congrArg Host.Outcome.next (State.conclude_settled s (.inl hg)))
    · obtain ⟨hu, hint⟩ : s.down.upFifo = [] ∧ s.down.intReqs = [] := hs.resolve_left fun h => h hg
      have hopen := State.openGrant_relay (s := State.award .relay
        { relayRequested s f a d b .requested with down := { s.down with upFifo := [] } }) rfl rfl
      have hgo := State.conclude_upFifo s
        (s := { relayRequested s f a d b .requested with down := { s.down with upFifo := s.down.upFifo ++ [.relay] } })
        (r := .relay) hg (by simp [hu]) hint (by rw [hopen]; nofun)
      refine (hnew hr).trans (congrArg Host.Outcome.next (hgo.trans ?_))
      rw [hopen]
      rfl
    · have hcont : Relay.continues a r = true := by simp [Relay.continues, hstage, hhome, haddr]
      have hclass : s.classDeviceByte b = s.continueRelay b := by
        simp [State.classDeviceByte, ha, hi, hr, hcont]
      rw [exec_deviceByte_open _ hd hin hb hgate, hclass, State.continueRelay_eq hin.1 ha hdir hr hhome haddr ho,
        State.conclude_settled]
      exact hs
  · have hclose : s.closeRelay false =
        { s with relay := none, down := { s.down with ended := true, activity := .closing .stop r.home.isSome } } := by
      rw [State.closeRelay, State.leaveRelay_served _ hr ho hg he hc hp]
      rfl
    have hframe : (s.closeRelay false).port.frame = some f := by rw [hclose]; exact hin.1
    have hgrant : (s.closeRelay false).down.grant ≠ none := by rw [hclose]; simp [hg]
    have hpending : s.closePending = s.closeRelay false := State.conclude_settled s (.inl hgrant)
    rw [exec_deviceByte_open _ hd hin hb hgate, State.classDeviceByte_write hi, hpending,
      State.beginHeader_eq hframe, State.conclude_settled _ (by exact .inl hgrant), hclose]

/-! ## Headers -/

/-- The first word-address byte of a live frame (R121). -/
theorem exec_wordAddressByte_first {s : State} {f : Frame} (b : Byte) (hd : s.nothingDue) (hin : s.inFrame f)
    (hcls : f.cls = .undecided) (hb : f.headerBytes = 1) :
    exec (.wordAddressByte b) s = .next (s.firstAddressByte b) := by
  obtain ⟨hf, hh, hdead⟩ := hin
  change execWordAddressByte b s = _
  exact onEvent_of_next hd (by simp [hf, hdead, hh, hcls, hb])

/-- The second word-address byte of a live frame (R121). -/
theorem exec_wordAddressByte_second {s : State} {f : Frame} {d : Nat} (b : Byte) (hd : s.nothingDue) (hin : s.inFrame f)
    (hcls : f.cls = .undecided) (hdev : f.dev = some d) (hb : f.headerBytes = 2) :
    exec (.wordAddressByte b) s = .next (s.secondAddressByte d (wordOf f.addrHigh b)) := by
  obtain ⟨hf, hh, hdead⟩ := hin
  change execWordAddressByte b s = _
  exact onEvent_of_next hd (by simp [hf, hdead, hh, hcls, hb, hdev])

/-- A header whose frame is not POSTED loads the pointer and is acknowledged (R121, R123). -/
theorem State.secondAddressByte_taken {s : State} {f : Frame} {d : Nat} {w a : Word} {c : FrameClass}
    (hf : s.port.frame = some f) (ha : s.startAddress d w = a) (hc : s.writeClass d a = c) (hp : c ≠ .posted) :
    s.secondAddressByte d w = headerTaken s f d a c := by
  simp only [State.secondAddressByte, ha, hc, if_neg hp]
  simp [State.updFrame, State.setPointer, State.answerWith, State.updPort, hf, headerTaken]

/-- A POSTED header reserves a FREE slot (R137). -/
theorem State.secondAddressByte_posted {s : State} {f : Frame} {d : Nat} {w a : Word} {i : SlotId}
    (hf : s.port.frame = some f) (ha : s.startAddress d w = a) (hc : s.writeClass d a = .posted)
    (hi : s.forward.freeSlot = some i) :
    s.secondAddressByte d w =
      { headerTaken s f d a .posted with
        forward := s.forward.set i (.collecting d a (emptyPage (s.setup.tables.pageSize d) a)) } := by
  simp only [State.secondAddressByte, ha, hc, hi]
  simp [State.reserveSlot, State.setSlot, State.updForward, State.updFrame, State.setPointer, State.answerWith,
    State.updPort, hf, hi, headerTaken]
  rfl

/-- A POSTED header that meets a full forward queue is held at A (R130). -/
theorem State.secondAddressByte_held {s : State} {f : Frame} {d : Nat} {w a : Word}
    (hf : s.port.frame = some f) (ha : s.startAddress d w = a) (hc : s.writeClass d a = .posted)
    (hi : s.forward.freeSlot = none) :
    s.secondAddressByte d w =
      { s with
        port :=
          { s.port with
            frame := some { f with cls := .posted, start := some a, headerBytes := 3 }
            hold := .a, holdTimer := none, idleTimer := some f.idleLimit, answer := none } } := by
  simp only [State.secondAddressByte, ha, hc, hi]
  simp [State.updFrame, State.decideHold, State.updPort, hf]

/-- Settles O18: the start address classes the frame, by its address class or, while UNCONFIGURED, by the window. -/
theorem headerClassesTheFrame : Obligations.HeaderClassesTheFrame := by
  intro s f b d hd hin hcls hdev
  have hf := hin.1
  refine ⟨fun hb => ?_, fun hb hconf => ?_, fun hb hconf => ?_⟩
  · rw [exec_wordAddressByte_first b hd hin hcls hb]
    simp [State.firstAddressByte, State.updFrame, State.answerWith, State.updPort, hf]
  · rw [exec_wordAddressByte_second b hd hin hcls hdev hb]
    intro a cls
    have hconfd : s.configured = true := by simp [State.configured, hconf]
    have ha : s.startAddress d (wordOf f.addrHigh b) = a := by simp only [State.startAddress, hconfd, if_true]; rfl
    have hclass : s.writeClass d a = cls.frameClass := by simp only [State.writeClass, hconfd, if_true]; rfl
    refine ⟨fun hc => ?_, fun hc => ?_, fun hc => ?_, fun i hc hi => ?_, fun hc hi => ?_⟩
    · rw [State.secondAddressByte_taken hf ha (c := .mark) (by rw [hclass, hc]; rfl) nofun]
    · rw [State.secondAddressByte_taken hf ha (c := .staged) (by rcases hc with hc | hc <;> rw [hclass, hc] <;> rfl) nofun]
    · rw [State.secondAddressByte_taken hf ha (c := .refused) (by rw [hclass, hc]; rfl) nofun]
    · rw [State.secondAddressByte_posted hf ha (by rw [hclass, hc]; rfl) hi]
    · rw [State.secondAddressByte_held hf ha (by rw [hclass, hc]; rfl) hi]
  · rw [exec_wordAddressByte_second b hd hin hcls hdev hb]
    intro a
    have hconfd : s.configured = false := by simp [State.configured, hconf]
    have ha : s.startAddress d (wordOf f.addrHigh b) = a := by simp [State.startAddress, hconfd, wordOf, a]
    refine ⟨fun hw => ?_, fun hw => ?_⟩
    · rw [State.secondAddressByte_taken hf ha (c := .mark) (by simp [State.writeClass, hconfd, hw]) nofun]
    · rw [State.secondAddressByte_taken hf ha (c := .relay) (by simp [State.writeClass, hconfd, hw]) nofun]

end Sys2Proof.Machine
end

section
/-! PROOF. Data bytes and the controller's answers (sections 7.6 and 7.8): reservations, the bytes of staged, MARK,
REFUSED and POSTED frames, of relays and of reads (O19 to O24). -/

namespace Sys2Proof.Machine

/-! ## How a data byte is answered -/

/-- The event of a data byte in a live frame of a served write (R125). -/
theorem exec_dataByte_of_cls {s t : State} {f : Frame} (b : Byte) (hd : s.nothingDue) (hin : s.inFrame f)
    (h : (f.cls = .staged ∧ s.stagedDataByte f b = t) ∨ (f.cls = .mark ∧ s.markDataByte f b = t)
      ∨ (f.cls = .refused ∧ s.refuseData = t) ∨ (f.cls = .posted ∧ s.postedDataByte f b = t)) :
    exec (.dataByte b) s = .next t := by
  obtain ⟨hf, hh, hdead⟩ := hin
  change execDataByte b s = _
  rcases h with ⟨hcls, rfl⟩ | ⟨hcls, rfl⟩ | ⟨hcls, rfl⟩ | ⟨hcls, rfl⟩ <;>
    exact onEvent_of_next hd (by simp [hf, hdead, hh, hcls])

theorem State.refuseData_eq {s : State} {f : Frame} (hf : s.port.frame = some f) :
    s.refuseData = { s with port := dataRefused s f } := by
  simp [State.refuseData, State.answerWith, State.updFrame, State.updPort, hf, dataRefused]

theorem State.advanceWrite_eq (d : Nat) (s : State) :
    s.advanceWrite d = { s with port := { s.port with pointers := s.port.pointers.set d (pointerAfterWrite s d) } } := by
  unfold State.advanceWrite pointerAfterWrite
  cases hc : s.setup.config <;> simp [State.configured, hc, State.setPointer, State.updPort, State.pointer, pageAdvance]

/-- A byte acknowledged counts, and its pointer advances (R123). -/
theorem State.ackData_advanceWrite {s : State} {f : Frame} (hf : s.port.frame = some f) (d : Nat) :
    s.ackData.advanceWrite d = { s with port := dataAcked s f d } := by
  rw [State.advanceWrite_eq]
  simp [State.ackData, State.answerWith, State.updFrame, State.updPort, hf, dataAcked]
  rfl

/-! ## Reservations -/

theorem State.nextImage_eq (d : Nat) (a : Word) (b : Byte) (s : State) : s.nextImage d a b = stagedImage s d a b := by
  unfold State.nextImage stagedImage
  cases s.store.image with
  | none => rfl
  | some i =>
    have hnot : (!i.page.writtenAt 0) = (i.page.cells.getD 0 none).isNone := by simp [PageImage.writtenAt]
    simp only [hnot]
    rfl

theorem State.reserve_met {s : State} {d : Nat} {a : Word} {b : Byte} (h : s.canReserve d a b = true) :
    s.reserve d a b = ({ s with store := { s.store with image := some (stagedImage s d a b) } }, true) := by
  simp [State.reserve, h, State.nextImage_eq, State.updStore]

theorem State.reserve_failed {s : State} {d : Nat} {a : Word} {b : Byte} (h : s.canReserve d a b = false) :
    s.reserve d a b = (s.loseOpenGroup, false) := by
  simp [State.reserve, h]

/-- Settles O19: a staged byte is acknowledged exactly when its reservation is met, and a failed one loses the group. -/
theorem stagedByteReservesOrLoses : Obligations.StagedByteReservesOrLoses := by
  intro s f b d a hd hin hcls hdev hstart
  have hf := hin.1
  refine ⟨fun hl hr hc => ?_, fun hl hr hc => ?_, fun h => ?_⟩
  · refine exec_dataByte_of_cls b hd hin (.inl ⟨hcls, ?_⟩)
    simp only [State.stagedDataByte, hdev, hstart, Option.getD_some, hr, hl, State.reserve_met hc]
    exact State.ackData_advanceWrite (s := { s with store := { s.store with image := some (stagedImage s d a b) } }) hf d
  · refine exec_dataByte_of_cls b hd hin (.inl ⟨hcls, ?_⟩)
    simp only [State.stagedDataByte, hdev, hstart, Option.getD_some, hr, hl, State.reserve_failed hc]
    exact State.refuseData_eq (s := s.loseOpenGroup) hf
  · refine exec_dataByte_of_cls b hd hin (.inl ⟨hcls, ?_⟩)
    rw [State.stagedDataByte, if_pos h.symm, State.refuseData_eq hf]

/-! ## What a reservation needs -/

/-- Writing a position of the page: one more is written, unless it was. -/
theorem written_write (p : PageImage) (i : Nat) (b : Byte) (h : i < p.cells.length) :
    (p.write i b).written = if p.cells.getD i none = none then p.written + 1 else p.written := by
  have hget : p.cells.getD i none = p.cells[i] := by simp [List.getD_eq_getElem?_getD, h]
  have hcount : p.cells[i].isSome = true → 0 < p.cells.countP Option.isSome := fun hs =>
    List.countP_pos_iff.2 ⟨_, List.getElem_mem h, hs⟩
  unfold PageImage.write PageImage.written
  rw [List.countP_set h, hget]
  cases hc : p.cells[i] with
  | none => simp
  | some v =>
    have := hcount (by simp [hc])
    simp
    omega

/-- The image of a first byte holds one position. -/
theorem written_opened (pageSize : Nat) (a : Word) (b : Byte) (h : 0 < pageSize) :
    ((PageImage.opened pageSize a).write (PageImage.opened pageSize a).startOff b).written = 1 := by
  have hlt : (PageImage.opened pageSize a).startOff < (PageImage.opened pageSize a).cells.length := by
    simpa [PageImage.opened] using Nat.mod_lt a.toNat h
  rw [written_write _ _ _ hlt]
  simp [PageImage.opened, PageImage.written, Nat.mod_lt _ h, List.getD_eq_getElem?_getD]

theorem written_stage (p : PageImage) (b : Byte) (h : 0 < p.cells.length) :
    (p.stage b).written = if p.cells.getD p.next none = none then p.written + 1 else p.written :=
  written_write p p.next b (Nat.mod_lt _ h)

/-- What a later byte of a staged frame needs, its position and its descriptors as they are (R27, R28). -/
theorem State.canReserve_later {s : State} {i : Image} (d : Nat) (a : Word) (b : Byte) (hc : s.store.claims = [])
    (hi : s.store.image = some i) (hlen : 0 < i.page.cells.length) :
    s.canReserve d a b = true ↔
      (i.page.cells.getD i.page.next none = none → 1 ≤ s.freePool)
        ∧ (i.page.next = 0 → i.page.cells.getD 0 none = none → i.second = false → 1 ≤ s.freeDescriptors) := by
  have hbytes : (s.nextImage d a b).page.written ≤ s.imageBytes + s.freePool
      ↔ (i.page.cells.getD i.page.next none = none → 1 ≤ s.freePool) := by
    have hwritten : (s.nextImage d a b).page.written = (i.page.stage b).written := by simp only [State.nextImage, hi]
    have hheld : s.imageBytes = i.page.written := by simp [State.imageBytes, hi]
    rw [hwritten, written_stage _ _ hlen, hheld]
    split
    · next h => exact ⟨fun hle _ => by omega, fun hp => by have := hp h; omega⟩
    · next h => exact ⟨fun _ hn => absurd hn h, fun _ => by omega⟩
  have hdescriptors : (s.nextImage d a b).descriptors ≤ s.imageDescriptors + s.freeDescriptors
      ↔ (i.page.next = 0 → i.page.cells.getD 0 none = none → i.second = false → 1 ≤ s.freeDescriptors) := by
    have hsecond : (s.nextImage d a b).second
        = (i.second || (decide (i.page.next = 0) && !i.page.writtenAt 0)) := by simp only [State.nextImage, hi]
    have hnone : i.page.writtenAt 0 = false ↔ i.page.cells.getD 0 none = none := by
      simp [PageImage.writtenAt]
    have hheld : s.imageDescriptors = i.descriptors := by simp [State.imageDescriptors, hi]
    rw [← hnone, hheld, Image.descriptors, Image.descriptors, hsecond]
    by_cases hz : i.page.next = 0
    · cases i.second <;> cases i.page.writtenAt 0 <;> simp [hz]
      omega
    · cases i.second <;> simp [hz]
  simp only [State.canReserve, hc, List.isEmpty_nil, Bool.true_and, Bool.and_eq_true, decide_eq_true_eq, hbytes,
    hdescriptors]

/-- Settles O20: what the image grows by is what a reservation needs. -/
theorem whatAReservationNeeds : Obligations.WhatAReservationNeeds := by
  intro s d a b
  refine ⟨fun hc => ?_, fun hc hi hp => ?_, fun i hc hi hlen => ?_⟩
  · simp [State.canReserve, hc]
  · simp [State.canReserve, hc, State.nextImage, hi, written_opened _ _ _ hp, State.imageBytes, State.imageDescriptors,
      Image.descriptors]
  · intro next
    have hneeds := State.canReserve_later d a b hc hi hlen
    refine ⟨fun hw => ?_, fun hw hn => ?_, fun hw hn hs => ?_⟩
    · exact hneeds.2 ⟨fun h => absurd h hw, fun h0 h1 _ => absurd ((congrArg (i.page.cells.getD · none) h0).trans h1) hw⟩
    · refine hneeds.trans ⟨fun ⟨hpool, _⟩ => hpool hw, fun hpool => ⟨fun _ => hpool, fun h0 _ hs => ?_⟩⟩
      rcases hn with hn | hn
      · exact absurd h0 hn
      · rw [hs] at hn; cases hn
    · exact hneeds.trans ⟨fun ⟨hpool, hdescr⟩ =>
        ⟨hpool hw, hdescr hn ((congrArg (i.page.cells.getD · none) hn).symm.trans hw) hs⟩,
        fun ⟨hpool, hdescr⟩ => ⟨fun _ => hpool, fun _ _ _ => hdescr⟩⟩

/-- Settles O21: a MARK frame takes its mark byte alone, and a REFUSED frame nothing. -/
theorem markAndRefusedDataBytes : Obligations.MarkAndRefusedDataBytes := by
  intro s f b d a hd hin hdev hstart
  have hf := hin.1
  refine ⟨fun hcls hacked hrefused ha => ?_, fun hcls h => ?_, fun hcls => ?_⟩
  · refine exec_dataByte_of_cls b hd hin (.inr (.inl ⟨hcls, ?_⟩))
    have hyes : f.acked = 0 ∧ f.refusedData = false ∧ f.start = some (BitVec.ofNat 16 (windowBase s.setup.straps)) :=
      ⟨hacked, hrefused, ha ▸ hstart⟩
    have hget : f.dev.getD 0 = d := by simp [hdev]
    rw [State.markDataByte, if_pos hyes, State.advanceWrite_eq, hget]
    simp [State.ackData, State.answerWith, State.updFrame, State.updPort, hf, dataAcked]
    rfl
  · refine exec_dataByte_of_cls b hd hin (.inr (.inl ⟨hcls, ?_⟩))
    have hno : ¬ (f.acked = 0 ∧ f.refusedData = false ∧ f.start = some (BitVec.ofNat 16 (windowBase s.setup.straps))) := by
      rw [hstart]
      rintro ⟨hacked, hrefused, ha⟩
      rcases h with h | h | h
      · exact h hacked
      · rw [hrefused] at h; cases h
      · exact h (Option.some.inj ha)
    rw [State.markDataByte, if_neg hno, State.refuseData_eq hf]
  · exact exec_dataByte_of_cls b hd hin (.inr (.inr (.inl ⟨hcls, State.refuseData_eq hf⟩)))

/-- Settles O22: a POSTED frame's bytes are collected, or all refused where its device is FAULTED at the first. -/
theorem postedByteIsCollected : Obligations.PostedByteIsCollected := by
  intro s f b d e a i p hd hin hcls hdev hi hg
  have hf := hin.1
  refine ⟨fun hr hfirst => ?_, fun h => ?_⟩
  · refine exec_dataByte_of_cls b hd hin (.inr (.inr (.inr ⟨hcls, ?_⟩)))
    have hno : ¬ (f.refusedData = true ∨ (f.acked = 0 ∧ s.devState (f.dev.getD 0) = .faulted)) := by
      rw [hdev]
      rintro (h | ⟨h0, h⟩)
      · rw [hr] at h; cases h
      · exact hfirst h0 h
    have hcollect : s.collectByte b = { s with forward := s.forward.set i (.collecting e a (collectedPage p b)) } := by
      simp only [State.collectByte, hi, hg]
      rfl
    rw [State.postedDataByte, if_neg hno, hcollect, hdev]
    exact State.ackData_advanceWrite
      (s := { s with forward := s.forward.set i (.collecting e a (collectedPage p b)) }) hf d
  · refine exec_dataByte_of_cls b hd hin (.inr (.inr (.inr ⟨hcls, ?_⟩)))
    rw [State.postedDataByte, if_pos (by rw [hdev]; exact h), State.refuseData_eq hf]

/-! ## Bytes of a relay -/

/-- The event of a byte after the device byte in a RELAY frame of write direction (R125, R143). -/
theorem exec_dataByte_relay {s t : State} {f : Frame} {b : Byte} (hd : s.nothingDue) (hin : s.inFrame f)
    (hcls : f.cls = .relay) (hdir : f.direction = some .write) (h : s.relayFrameByte f b = .next t) :
    exec (.dataByte b) s = .next t := by
  obtain ⟨hf, hh, hdead⟩ := hin
  change execDataByte b s = _
  exact onEvent_of_next hd (by simp [hf, hdead, hh, hcls, hdir, h])

theorem exec_wordAddressByte_relay {s t : State} {f : Frame} {b : Byte} (hd : s.nothingDue) (hin : s.inFrame f)
    (hcls : f.cls = .relay) (hdir : f.direction = some .write) (hb : f.headerBytes = 1)
    (h : s.relayFrameByte f b = .next t) : exec (.wordAddressByte b) s = .next t := by
  obtain ⟨hf, hh, hdead⟩ := hin
  change execWordAddressByte b s = _
  exact onEvent_of_next hd (by simp [hf, hdead, hh, hcls, hdir, hb, h])

/-- Settles O23: a byte of an open relay goes downstream, and the first of a home write requests its relay. -/
theorem relayedByteIsHeld : Obligations.RelayedByteIsHeld := by
  intro s f b hcalm hin hcls hdir held
  obtain ⟨hd, hs⟩ := hcalm
  have hf := hin.1
  refine ⟨fun hr => ?_, fun r hn hr hstage => ?_, fun a hn hr ha hg => ?_⟩
  · refine exec_dataByte_relay hd hin hcls hdir ?_
    simp [State.relayFrameByte, hr, State.refuseData_eq hf]
  · have hbyte : s.relayFrameByte f b
        = .next { s with relay := some { r with stage := .byteSent, byte := b }, port := held } := by
      simp [State.relayFrameByte, hn, hr, hstage, State.relayByte, State.decideHold, State.updRelay, State.updPort, hf, held]
    have hexec := exec_dataByte_relay hd hin hcls hdir hbyte
    exact ⟨hexec, fun hb => (exec_wordAddressByte_relay hd hin hcls hdir hb hbyte).trans hexec.symm⟩
  · refine exec_dataByte_relay hd hin hcls hdir ?_
    have hbegin : s.relayFrameByte f b = .next (s.conclude (s.beginHomeRelay b a)) := by
      simp [State.relayFrameByte, hn, hr, ha]
    rw [hbegin, State.conclude_settled]
    · simp [State.beginHomeRelay, State.decideHold, State.updRelay, State.updPort, State.placeUp, State.updDown, hf, held]
    · exact .inl (by simpa using hg)

/-! ## The controller's answers -/

theorem exec_controllerAnswer_read {s t : State} {f : Frame} {ack : Bool} (hd : s.nothingDue) (hin : s.inFrame f)
    (hcls : f.cls = .read) (h : s.answerRead ack = .next t) : exec (.controllerAnswer ack) s = .next t := by
  obtain ⟨hf, hh, hdead⟩ := hin
  change execControllerAnswer ack s = _
  exact onEvent_of_next hd (by simp [hf, hdead, hh, hcls, h])

theorem exec_controllerAnswer_relay {s t : State} {f : Frame} {ack : Bool} (hd : s.nothingDue) (hin : s.inFrame f)
    (hcls : f.cls = .relay) (hdir : f.direction = some .read) (h : s.answerRelay f ack = .next t) :
    exec (.controllerAnswer ack) s = .next t := by
  obtain ⟨hf, hh, hdead⟩ := hin
  change execControllerAnswer ack s = _
  exact onEvent_of_next hd (by simp [hf, hdead, hh, hcls, hdir, h])

/-- Settles O24: an ack asks for the next byte, a NAK drains, and a filling frame sends FFh. -/
theorem controllerAnswersAByte : Obligations.ControllerAnswersAByte := by
  refine ⟨fun s f ack hd hin hcls => ?_, fun s f r ack hd hin hcls hdir => ?_⟩
  · have hf := hin.1
    intro d moved
    refine ⟨fun hp ha hc => ⟨?_, ?_⟩, fun hp => ?_, fun hp => ?_⟩
    · refine exec_controllerAnswer_read hd hin hcls ?_
      simp [State.answerRead, hp, ha, hc, State.advanceRead, State.setPointer, State.decideHold, State.setActivity,
        State.updPort, State.updDown, hf, State.pointer, readAdvance, d, moved]
    · refine exec_controllerAnswer_read hd hin hcls ?_
      simp [State.answerRead, hp, ha, hc, State.advanceRead, State.setPointer, State.beginClosing, State.setActivity,
        State.updPort, State.updDown, State.updRead, State.pointer, readAdvance, d, moved]
    · refine exec_controllerAnswer_read hd hin hcls ?_
      simp [State.answerRead, hp, State.advanceRead, State.setPointer, State.sendUp, State.updPort, State.pointer,
        readAdvance, d, moved]
    · refine exec_controllerAnswer_read hd hin hcls ?_
      simp [State.answerRead, hp]
  · have hf := hin.1
    refine ⟨fun hfill hr hstage => ⟨?_, ?_⟩, fun hfill hr hstage => ?_, fun hfill => ?_⟩
    · refine exec_controllerAnswer_relay hd hin hcls hdir ?_
      simp [State.answerRelay, hfill, hr, hstage, State.decideHold, State.updRelay, State.updPort, hf]
    · refine exec_controllerAnswer_relay hd hin hcls hdir ?_
      simp [State.answerRelay, hfill, hr, hstage, State.updRelay]
    · refine exec_controllerAnswer_relay hd hin hcls hdir ?_
      simp [State.answerRelay, hfill, hr, hstage]
    · refine exec_controllerAnswer_relay hd hin hcls hdir ?_
      simp [State.answerRelay, hfill, State.sendUp, State.updPort]

end Sys2Proof.Machine
end

section
/-! PROOF. The hold timer's expiries (R128 to R130, R145) and the marks (section 6.2): DISCARD, CLEAR, SEAL, RETRY, PAUSE
and RESUME (O25 to O31). -/

namespace Sys2Proof.Machine

/-! ## The hold timer -/

theorem State.refuseHeld_eq {s : State} {f : Frame} (hf : s.port.frame = some f) :
    s.refuseHeld = { s with port := heldRefused s f } := by
  simp [State.refuseHeld, State.releaseHold, State.answerWith, State.killFrame, State.updFrame, State.updPort, hf,
    heldRefused]

theorem State.refuseRead_eq {s : State} {f : Frame} (hf : s.port.frame = some f) :
    s.refuseRead = { s with port := heldRefused s f, read := { s.read with phase := .dead } } := by
  rw [State.refuseRead, State.refuseHeld_eq hf]
  rfl

theorem exec_holdTimerExpiryA {s : State} {f : Frame} (hd : s.nothingDue) (hf : s.port.frame = some f)
    (hh : s.port.hold = .a) : exec .holdTimerExpiryA s = .next (s.conclude (s.expireHoldA f)) := by
  change execHoldTimerExpiryA s = _
  exact onEvent_of_next hd (by simp [hf, hh])

/-- Withdrawing a request leaves the arbiter with nothing to do (R150). -/
theorem State.withdraw_settled (r : Requester) {s : State} (hs : s.settled) : (s.withdraw r).settled := by
  rcases hs with hs | ⟨hu, hi⟩
  · exact .inl hs
  · exact .inr ⟨by simp [State.withdraw, State.updDown, hu], hi⟩

/-- Settles O25: the held byte is refused, and what the frame had asked for is withdrawn, runs on or is wound up. -/
theorem holdExpiryAtARefuses : Obligations.HoldExpiryAtARefuses := by
  intro s f hcalm hf hh
  obtain ⟨hd, hs⟩ := hcalm
  have hexec := exec_holdTimerExpiryA hd hf hh
  have hrelay : f.cls = .relay → s.expireHoldA f = ({ s with port := heldRefused s f } : State).windUpRelay := fun hc => by
    simp only [State.expireHoldA, hc, State.refuseHeld_eq hf]
  refine ⟨fun hc hg => ?_, fun hc hg he => ?_, fun hc => ?_, fun hc hr hg => ?_, fun r hc hr hg he => ⟨fun hw => ?_, ?_⟩⟩
  · have hx : s.expireHoldA f = State.withdraw .read
        { s with port := heldRefused s f, read := { s.read with phase := .dead } } := by
      simp [State.expireHoldA, hc, State.refuseRead_eq hf, State.woundUpRead, State.serving, hg]
    rw [hexec, hx, State.conclude_settled]
    · rfl
    · exact State.withdraw_settled .read hs
  · have hx : s.expireHoldA f = { s with port := heldRefused s f, read := { s.read with phase := .dead } } := by
      simp [State.expireHoldA, hc, State.refuseRead_eq hf, State.woundUpRead, State.serving, hg, he]
    rw [hexec, hx, State.conclude_settled]
    exact hs
  · have hx : s.expireHoldA f = { s with port := heldRefused s f } := by
      simp only [State.expireHoldA, hc, State.refuseHeld_eq hf]
    rw [hexec, hx, State.conclude_settled]
    exact hs
  · obtain ⟨r, hr⟩ := Option.ne_none_iff_exists'.1 hr
    have hx : ({ s with port := heldRefused s f } : State).windUpRelay
        = State.withdraw .relay { s with port := heldRefused s f, relay := none } :=
      State.leaveRelay_ungranted _ hr (by simp [State.serving, hg])
    rw [hexec, hrelay hc, hx, State.conclude_settled]
    · rfl
    · exact State.withdraw_settled .relay hs
  · have hx : ({ s with port := heldRefused s f } : State).windUpRelay
        = State.markEnded { s with port := heldRefused s f, relay := none } :=
      State.leaveRelay_waiting _ hr (by simp [State.serving, hg, he])
        (hw.imp id fun hp => Option.isSome_iff_ne_none.2 hp)
    rw [hexec, hrelay hc, hx, State.conclude_settled]
    · rfl
    · exact .inl (by simp [State.markEnded, State.updDown, hg])
  · intro hclear hp ho hstage
    have hx : ({ s with port := heldRefused s f } : State).windUpRelay
        = State.setActivity r.windUp (State.markEnded { s with port := heldRefused s f, relay := none }) :=
      State.leaveRelay_served _ hr ho hg he hclear hp
    have hact : r.windUp = .windUp .write (windUpClosing r) r.home.isSome := by
      rcases hstage with h | h <;> simp [Relay.windUp, Relay.byteInFlight, h, Relay.closing_eq]
    rw [hexec, hrelay hc, hx, hact, State.conclude_settled]
    · rfl
    · exact .inl (by simp [State.markEnded, State.updDown, State.setActivity, hg])

/-- Settles O26: the byte awaited is sent as FFh, and a relay is wound up after it. -/
theorem holdExpiryAtBFills : Obligations.HoldExpiryAtBFills := by
  intro s f hcalm hf hh filled
  obtain ⟨hd, hs⟩ := hcalm
  refine ⟨fun hc => ?_, fun r hc hr hg he hclear hp ho hstage => ?_⟩
  · have hexec : execHoldTimerExpiryB s = .next (s.conclude s.fillRead) := onEvent_of_next hd (by simp [hf, hh, hc])
    have hfill : s.fillRead = { s with port := filled, read := { s.read with phase := .filling } } := by
      simp [State.fillRead, hh, State.releaseHold, State.sendUp, State.updPort, State.updRead, hf, filled]
    change execHoldTimerExpiryB s = _
    rw [hexec, hfill, State.conclude_settled]
    exact hs
  · have hexec : execHoldTimerExpiryB s = .next (s.conclude s.fillRelay) := onEvent_of_next hd (by simp [hf, hh, hc])
    have hport : (s.releaseHold.sendUp 0xFF).updFrame (fun f => { f with filling := true })
        = { s with port := { filled with frame := some { f with filling := true } } } := by
      simp [State.releaseHold, State.sendUp, State.updFrame, State.updPort, hf, filled]
    have hwind := State.leaveRelay_served
      (s := { s with port := { filled with frame := some { f with filling := true } } })
      (fun r s => s.setActivity r.windUp) hr ho hg he hclear hp
    have hact : r.windUp = .windUp .read .nakStop r.home.isSome := by
      simp [Relay.windUp, Relay.byteInFlight, hstage, Relay.closing]
    change execHoldTimerExpiryB s = _
    rw [hexec, State.fillRelay, hport, State.windUpRelay, hwind, hact, State.conclude_settled]
    · rfl
    · exact .inl (by simp [State.markEnded, State.updDown, State.setActivity, hg])

/-! ## Marks -/

/-- A mark's row, where the mark arrives (R100, R132). -/
theorem exec_mark {s : State} {v : Byte} (hd : s.nothingDue) (h : s.markArrives v) :
    exec (markCommand v) s = .next (s.conclude (s.frameOver.actOnMark v)) :=
  (exec_markCommand v s).trans (onEvent_of_next hd (markEvent_arrives h))

/-- The end of the frame that carries the mark changes the port alone. -/
theorem State.frameOver_eq (s : State) : ∃ p, s.frameOver = { s with port := p } := by
  unfold State.frameOver
  split
  · exact ⟨s.port, rfl⟩
  · exact ⟨_, rfl⟩

theorem markCommand_invalid {v : Byte} (h : 0xF4 ≤ v.toNat) : markCommand v = .invalidMark v := by
  unfold markCommand
  repeat rw [if_neg (by bv_omega)]

theorem markCommand_seal {v : Byte} (h : 1 ≤ v.toNat) (h' : v.toNat ≤ 0xEF) : markCommand v = .seal v := by
  unfold markCommand
  rw [if_neg (by bv_omega), if_pos h']

theorem markEffect_seal {v : Byte} (h : 1 ≤ v.toNat) (h' : v.toNat ≤ 0xEF) (s : State) :
    markEffect v s = markSeal v s := by
  unfold markEffect
  rw [if_neg (by bv_omega), if_pos h']

theorem markEffect_invalid {v : Byte} (h : 0xF4 ≤ v.toNat) (s : State) : markEffect v s = markInvalid s := by
  unfold markEffect
  repeat rw [if_neg (by bv_omega)]

/-- Settles O27: DISCARD, CLEAR and invalid marks change the OPEN group, the notices, and nothing. -/
theorem discardClearAndInvalidMarks : Obligations.DiscardClearAndInvalidMarks := by
  intro s hcalm
  obtain ⟨hd, hs⟩ := hcalm
  obtain ⟨p, hp⟩ := s.frameOver_eq
  refine ⟨fun h => ?_, fun h => ?_, fun v hv h => ?_⟩
  · rw [show exec .discard s = _ from exec_mark hd h, hp, State.conclude_settled]
    · rfl
    · exact hs
  · rw [show exec .clear s = _ from exec_mark hd h, hp, State.conclude_settled]
    · rfl
    · exact hs
  · have hx : (State.actOnMark v { s with port := p }) = { s with port := p, window := s.window.marked v .badMark } := by
      simp only [State.actOnMark, markEffect_invalid hv]
      rfl
    rw [← markCommand_invalid hv, exec_mark hd h, hp, hx, State.conclude_settled]
    exact hs

/-! ### SEAL -/

/-- A SEAL that arrives seals, and records itself and its result (R100, R103). -/
theorem exec_seal {s : State} {tag : Byte} (hd : s.nothingDue) (h1 : 1 ≤ tag.toNat) (h2 : tag.toNat ≤ 0xEF)
    (h : s.markArrives tag) :
    exec (.seal tag) s = .next (s.conclude ((markSeal tag s.frameOver).1.updWindow
      fun w => { w with lastMark := tag, result := (markSeal tag s.frameOver).2 })) := by
  rw [← markCommand_seal h1 h2, exec_mark hd h, State.actOnMark, markEffect_seal h1 h2]

/-- A SEAL that fails a test changes only what the window records. -/
theorem exec_seal_refused {s : State} {tag : Byte} {r : MarkResult} (hcalm : s.calm) (h1 : 1 ≤ tag.toNat)
    (h2 : tag.toNat ≤ 0xEF) (h : s.markArrives tag) (hr : ∀ p, markSeal tag { s with port := p } = ({ s with port := p }, r)) :
    exec (.seal tag) s = .next { s.frameOver with window := s.window.marked tag r } := by
  obtain ⟨hd, hs⟩ := hcalm
  obtain ⟨p, hp⟩ := s.frameOver_eq
  rw [exec_seal hd h1 h2 h, hp, hr p, State.conclude_settled]
  · rfl
  · exact hs

/-- Settles O28: the tests of SEAL are taken in their order. -/
theorem sealRefusals : Obligations.SealRefusals := by
  intro s tag hcalm h1 h2 h
  refine ⟨fun hc => ?_, fun g hc hg => ⟨fun hl => ?_, fun hl he => ?_, fun hl he hfull => ?_⟩⟩
  · exact exec_seal_refused hcalm h1 h2 h fun p => by simp [markSeal, hc]
  · exact exec_seal_refused hcalm h1 h2 h fun p => by simp [markSeal, hc, hg, hl]
  · exact exec_seal_refused hcalm h1 h2 h fun p => by simp [markSeal, hc, hg, hl, he]
  · exact exec_seal_refused hcalm h1 h2 h fun p => by simp [markSeal, hc, hg, hl, he, Config.sealedMax, hfull]

theorem State.placementFor_eq (es : List Entry) (s : State) : s.placementFor es = newPlacement s es := rfl

/-- The OPEN group made a sealed one, and a new OPEN group begun (R46). -/
def State.sealing (g : Group) (tag : Byte) (s : State) : State :=
  { s with
    queue :=
      { s.queue with
        openGroup := some Group.empty
        sealed := s.queue.sealed ++ [{ g with state := .sealed, tag := some tag, seq := some s.journal.nextSeq }] }
    journal := { s.journal with nextSeq := s.journal.nextSeq + 1 } }

/-- A SEAL that passes its tests (R46). -/
theorem markSeal_passes {s : State} {g : Group} (tag : Byte) (hc : s.setup.config = .configured)
    (hg : s.queue.openGroup = some g) (hl : s.queue.lost = false) (he : g.entries ≠ [])
    (hn : s.queue.sealed.length < 3) : markSeal tag s = ((s.sealing g tag).startGroup, .ok) := by
  simp [markSeal, hc, hg, hl, he, Config.sealedMax, Nat.not_le.2 hn, State.updQueue, State.updJournal, Group.sealedWith,
    State.sealing]

theorem State.startGroup_of_busy {s : State} (h : s.engine.state ≠ .idle ∨ s.engine.pauseRequested = true) :
    s.startGroup = s := by
  unfold State.startGroup
  rw [if_neg]
  rintro ⟨hi, -, hp⟩
  rcases h with h | h
  · exact h hi
  · rw [hp] at h; cases h

/-- The oldest sealed group begins its journal pass (R51, R52). -/
theorem State.beginPass_eq {s : State} {g : Group} {gs : List Group} (hg : s.queue.sealed = g :: gs) :
    s.beginPass =
      { s with
        queue :=
          { s.queue with
            sealed :=
              { g with
                state := .journaling, passes := g.passes + 1
                placement := some (g.placement.getD (newPlacement s g.entries)) } :: gs }
        journal := { s.journal with live := some (g.placement.getD (newPlacement s g.entries)) }
        engine := { s.engine with state := .phase .journal, pointer := 0, attempts := 0, remembered := none }
        down := { s.down with intReqs := s.down.intReqs ++ [.engine] } } := by
  simp [State.beginPass, State.oldestSealed, hg, State.updCurrent, State.updQueue, State.updJournal, State.beginStep,
    State.updEngine, State.placeInternal, State.updDown, Group.passBegun, State.placementFor_eq]

/-- An IDLE engine starts the oldest sealed group with its journal pass (R51). -/
theorem State.startGroup_of_sealed {s : State} {g : Group} {gs : List Group} (hi : s.engine.state = .idle)
    (hc : s.setup.config = .configured) (hp : s.engine.pauseRequested = false) (hg : s.queue.sealed = g :: gs)
    (ha : g.state ≠ .applying) : s.startGroup = s.beginPass := by
  simp [State.startGroup, hi, State.configured, hc, hp, State.oldestSealed, hg, ha]

/-- An IDLE engine takes up a replay group at its next entry (R51, R56). -/
theorem State.startGroup_of_replay {s : State} {g : Group} {gs : List Group} (hi : s.engine.state = .idle)
    (hc : s.setup.config = .configured) (hp : s.engine.pauseRequested = false) (hg : s.queue.sealed = g :: gs)
    (ha : g.state = .applying) :
    s.startGroup = (s.updJournal fun j => { j with live := g.placement }).beginStep .apply g.progress := by
  simp [State.startGroup, hi, State.configured, hc, hp, State.oldestSealed, hg, ha]

/-- Where the engine has placed its request, the arbiter grants it at a free bus if it is alone there and the step's
device is READY, and else leaves it to wait (R151, R154). -/
theorem State.conclude_step {s t : State} (hs : s.settled) (hg : t.down.grant = s.down.grant)
    (hu : t.down.upFifo = s.down.upFifo) (hi : t.down.intReqs = s.down.intReqs ++ [.engine]) :
    (s.down.grant ≠ none → s.conclude t = t)
      ∧ (s.down.grant = none → t.devState t.stepDevice = .ready → s.conclude t = stepSent t) := by
  refine ⟨fun h => State.conclude_settled s (.inl (hg ▸ h)), fun h hready => ?_⟩
  obtain ⟨hu', hi'⟩ : s.down.upFifo = [] ∧ s.down.intReqs = [] := hs.resolve_left fun h' => h' h
  exact State.conclude_engine_ready s (hg.trans h) (hu.trans hu') (by rw [hi, hi']; rfl) hready

/-- A journal step writes one page of the current group's record (R52). -/
theorem State.stepFrame_journal {s : State} {g : Group} {gs : List Group} (he : s.engine.state = .phase .journal)
    (hg : s.queue.sealed = g :: gs) :
    s.stepFrame = .write (s.addrOf s.ring.dev) (s.recordAddr g (s.engine.pointer * s.ringPageSize))
      (pageOfRecord s.ringPageSize s.engine.pointer g.image) := by
  simp [State.stepFrame, he, State.currentGroup_of_phase he, hg]

/-- Settles O29: the sealed group is started by an IDLE engine, and its first page sent at a free bus. -/
theorem sealMakesASealedGroup : Obligations.SealMakesASealedGroup := by
  intro s tag g hcalm h1 h2 harrives hc hg hl he hn
  obtain ⟨hd, hs⟩ := hcalm
  obtain ⟨p, hp⟩ := s.frameOver_eq
  have hexec : exec (.seal tag) s = .next (s.conclude ((State.sealing g tag { s with port := p }).startGroup.updWindow
      fun w => { w with lastMark := tag, result := .ok })) := by
    rw [exec_seal hd h1 h2 harrives, hp, markSeal_passes (s := { s with port := p }) tag hc hg hl he hn]
  rw [hp, hexec]
  intro sealedGroup
  refine ⟨fun hbusy => ?_, fun hidle hpause hempty hplace => ?_⟩
  · rw [State.startGroup_of_busy (s := State.sealing g tag { s with port := p }) hbusy, State.conclude_settled]
    · rfl
    · exact hs
  · intro p' journaling started
    have hsealed : (State.sealing g tag { s with port := p }).queue.sealed = [sealedGroup] := by
      simp [State.sealing, hempty, sealedGroup]
    have hstart : (State.sealing g tag { s with port := p }).startGroup.updWindow
        (fun w => { w with lastMark := tag, result := .ok })
        = { started with down := { s.down with intReqs := s.down.intReqs ++ [.engine] } } := by
      rw [State.startGroup_of_sealed (s := State.sealing g tag { s with port := p }) hidle hc hpause hsealed nofun,
        State.beginPass_eq hsealed]
      simp only [sealedGroup, hplace, Option.getD_none]
      rfl
    have hstep := State.conclude_step hs
      (t := { started with down := { s.down with intReqs := s.down.intReqs ++ [.engine] } }) rfl rfl rfl
    rw [hstart]
    refine ⟨fun hgrant => congrArg Host.Outcome.next (hstep.1 hgrant), fun hgrant hready => ?_⟩
    refine congrArg Host.Outcome.next ((hstep.2 hgrant hready).trans ?_)
    have hframe : State.stepFrame { started with down := { s.down with intReqs := s.down.intReqs ++ [.engine] } }
        = .write (s.addrOf s.ring.dev) (BitVec.ofNat 16 (p'.first * s.ringPageSize))
            ((recordImage journaling p'.count).take s.ringPageSize) := by
      rw [State.stepFrame_journal rfl rfl]
      simp only [State.recordAddr, pageOfRecord, Group.image, started, journaling, Option.map_some, Option.getD_some,
        Nat.zero_mul, Nat.add_zero, List.drop_zero]
      rfl
    rw [stepSent, hframe]

/-! ### RETRY -/

/-- The devices after RETRY (R104, R163). -/
theorem retried_eq : DevState.retried = fun d => if d = .faulted then .ready else d := by
  funext d
  cases d <;> rfl

/-- A halted engine at the beginning of the halted step, its fault cleared; a group halted with VERIFY_FAILED may
journal three times again (R54, R63). -/
theorem State.leaveHalted_eq (s : State) :
    s.leaveHalted = State.atBoundary (s.engine.remembered.getD .idle)
      { s with
        queue :=
          { s.queue with
            sealed :=
              if s.engine.faultCode = .verifyFailed then
                match s.queue.sealed with
                | [] => []
                | g :: gs => { g with passes := 0 } :: gs
              else s.queue.sealed }
        engine := { s.engine with faultCode := .none, faultDevice := none, attempts := 0 } } := by
  unfold State.leaveHalted
  by_cases hv : s.engine.faultCode = .verifyFailed
  · simp only [hv, if_true]
    rfl
  · simp only [hv, if_false]
    rfl

theorem State.atBoundary_runs {s : State} (n : NextStep) (h : s.engine.pauseRequested = false) :
    s.atBoundary n = s.takeNext n := by
  simp [State.atBoundary, h]

theorem State.atBoundary_pauses {s : State} (n : NextStep) (h : s.engine.pauseRequested = true) :
    s.atBoundary n = s.enterPaused n := by
  simp [State.atBoundary, h]

/-- Settles O30: the halted step is requested again, or remembered by an engine with a pause requested. -/
theorem retryRunsTheHaltedStep : Obligations.RetryRunsTheHaltedStep := by
  intro s hcalm harrives
  obtain ⟨hd, hs⟩ := hcalm
  obtain ⟨p, hp⟩ := s.frameOver_eq
  have hexec : exec .retry s = .next (s.conclude (State.actOnMark 0xF0 { s with port := p })) := by
    rw [← hp]
    exact exec_mark hd harrives
  rw [hp, hexec]
  intro states sealed'
  have hretry : State.actOnMark 0xF0 { s with port := p } =
      if s.engine.state = .halted then
        (State.leaveHalted { s with port := p, down := { s.down with states := states } }).updWindow
          fun w => { w with lastMark := 0xF0, result := .ok }
      else { s with port := p, down := { s.down with states := states }, window := s.window.marked 0xF0 .notHalted } := by
    unfold states
    rw [← retried_eq]
    by_cases hh : s.engine.state = .halted
    · rw [if_pos hh]
      simp [State.actOnMark, markEffect, markRetry, hh]
      rfl
    · rw [if_neg hh]
      simp [State.actOnMark, markEffect, markRetry, hh]
      rfl
  refine ⟨fun hn => ?_, fun ph k hh hr hpause => ?_, fun n hh hr hpause => ?_⟩
  · rw [hretry, if_neg hn, State.conclude_settled]
    exact hs
  · intro retried
    have hgo : State.actOnMark 0xF0 { s with port := p } = retried := by
      rw [hretry, if_pos hh, State.leaveHalted_eq, State.atBoundary_runs]
      · change State.updWindow _ (State.takeNext (s.engine.remembered.getD .idle) _) = _
        rw [hr]
        rfl
      · exact hpause
    have hstep := State.conclude_step hs (t := retried) rfl rfl rfl
    rw [hgo]
    exact ⟨rfl, fun hg => congrArg Host.Outcome.next (hstep.1 hg), fun hg hready =>
      congrArg Host.Outcome.next (hstep.2 hg hready)⟩
  · rw [hretry, if_pos hh, State.leaveHalted_eq, State.atBoundary_pauses]
    · change Host.Outcome.next (s.conclude (State.updWindow _ (State.enterPaused (s.engine.remembered.getD .idle) _))) = _
      rw [hr, State.conclude_settled]
      · rfl
      · exact hs
    · exact hpause

/-! ### PAUSE and RESUME -/

/-- What PAUSE does, with its recording (R64, R105). -/
theorem State.actOnMark_pause (s : State) :
    s.actOnMark 0xF1 =
      { s with
        engine :=
          if s.engine.state = .idle then
            { s.engine with state := .paused, attempts := 0, pauseRequested := true, remembered := some .idle }
          else { s.engine with pauseRequested := true }
        window := s.window.marked 0xF1 .ok } := by
  by_cases hi : s.engine.state = .idle
  · rw [if_pos hi]
    simp [State.actOnMark, markEffect, markPause, hi, State.enterPaused, State.updEngine, State.updWindow, Window.marked]
  · rw [if_neg hi]
    simp [State.actOnMark, markEffect, markPause, hi, State.updEngine, State.updWindow, Window.marked]

/-- RESUME of a PAUSED engine: it takes the step it remembers (R65). -/
theorem State.actOnMark_resume {s : State} {n : NextStep} (hp : s.engine.state = .paused)
    (hr : s.engine.remembered = some n) :
    s.actOnMark 0xF2 =
      (State.takeNext n { s with engine := { s.engine with pauseRequested := false } }).updWindow
        fun w => { w with lastMark := 0xF2, result := .ok } := by
  simp [State.actOnMark, markEffect, markResume, hp, hr, State.updEngine]

/-- RESUME of an engine that is not PAUSED (R65, R66). -/
theorem State.actOnMark_resume_running {s : State} (hp : s.engine.state ≠ .paused) :
    s.actOnMark 0xF2 =
      if s.engine.pauseRequested then
        { s with engine := { s.engine with pauseRequested := false }, window := s.window.marked 0xF2 .ok }
      else { s with window := s.window.marked 0xF2 .notPaused } := by
  cases hq : s.engine.pauseRequested <;>
    simp [State.actOnMark, markEffect, markResume, hp, hq, State.updEngine, State.updWindow, Window.marked]

/-- Settles O31: PAUSE and RESUME by the engine's state, a resumed step being requested. -/
theorem pauseAndResume : Obligations.PauseAndResume := by
  intro s hcalm
  obtain ⟨hd, hs⟩ := hcalm
  obtain ⟨p, hp⟩ := s.frameOver_eq
  rw [hp]
  refine ⟨fun h => ?_, fun h => ?_⟩
  · have hexec : exec .pause s = .next (s.conclude (State.actOnMark 0xF1 { s with port := p })) := by
      rw [← hp]
      exact exec_mark hd h
    rw [hexec, State.actOnMark_pause, State.conclude_settled]
    exact hs
  · have hexec : exec .resume s = .next (s.conclude (State.actOnMark 0xF2 { s with port := p })) := by
      rw [← hp]
      exact exec_mark hd h
    rw [hexec]
    intro resumed runs
    have hruns : ∀ t : State, State.actOnMark 0xF2 { s with port := p } = t → t.down.grant = s.down.grant →
        t.down.upFifo = s.down.upFifo → t.down.intReqs = s.down.intReqs ++ [.engine] → runs t := by
      intro t ht hg hu hi
      have hstep := State.conclude_step hs hg hu hi
      subst ht
      exact ⟨rfl, fun hg => congrArg Host.Outcome.next (hstep.1 hg), fun hg hready =>
        congrArg Host.Outcome.next (hstep.2 hg hready)⟩
    refine ⟨fun ph k hpaused hr => hruns _ ?_ rfl rfl rfl, fun g gs hpaused hg => ⟨fun hr => ?_, fun hr hc ha => ?_⟩,
      fun hpaused hr hempty => ?_, fun hn hq => ?_, fun hn hq => ?_⟩
    · rw [State.actOnMark_resume (s := { s with port := p }) hpaused hr]
      rfl
    · intro p'
      refine hruns _ ?_ rfl rfl rfl
      rcases hr with hr | ⟨hr, hc, ha⟩
      · have hbegin := State.beginPass_eq
          (s := { s with port := p, engine := { s.engine with pauseRequested := false } }) hg
        rw [State.actOnMark_resume (s := { s with port := p }) hpaused hr, State.takeNext, hbegin]
        rfl
      · have hidle := State.startGroup_of_sealed
          (s := State.engineIdle { s with port := p, engine := { s.engine with pauseRequested := false } })
          rfl hc rfl hg ha
        have hbegin := State.beginPass_eq
          (s := State.engineIdle { s with port := p, engine := { s.engine with pauseRequested := false } }) hg
        rw [State.actOnMark_resume (s := { s with port := p }) hpaused hr, State.takeNext, hidle, hbegin]
        rfl
    · refine hruns _ ?_ rfl rfl rfl
      have hidle := State.startGroup_of_replay
        (s := State.engineIdle { s with port := p, engine := { s.engine with pauseRequested := false } })
        rfl hc rfl hg ha
      rw [State.actOnMark_resume (s := { s with port := p }) hpaused hr, State.takeNext, hidle]
      rfl
    · have hidle : State.takeNext .idle { s with port := p, engine := { s.engine with pauseRequested := false } }
          = State.engineIdle { s with port := p, engine := { s.engine with pauseRequested := false } } := by
        simp [State.takeNext, State.startGroup, State.oldestSealed, hempty]
      rw [State.actOnMark_resume (s := { s with port := p }) hpaused hr, hidle, State.conclude_settled]
      · rfl
      · exact hs
    · rw [State.actOnMark_resume_running (s := { s with port := p }) hn, if_pos hq, State.conclude_settled]
      exact hs
    · rw [State.actOnMark_resume_running (s := { s with port := p }) hn, if_neg (by simp [hq]), State.conclude_settled]
      exact hs

end Sys2Proof.Machine
end

section
/-! PROOF. Polls and the part's own write frames (sections 9.3 and 9.4): what an acknowledged poll goes on with, what an
expired one fails, retirement, and the polls that write frames begin (O32 to O38). -/

namespace Sys2Proof.Machine

/-! ## Bytes of words -/

theorem hiByte_eq (w : Word) : hiByte w = BitVec.ofNat 8 (w.toNat / 256) := by
  apply BitVec.eq_of_toNat_eq
  simp [hiByte, Nat.shiftRight_eq_div_pow]

theorem loByte_eq (w : Word) : loByte w = BitVec.ofNat 8 (w.toNat % 256) := by
  apply BitVec.eq_of_toNat_eq
  simp [loByte]

theorem wordBytes_eq (w : Word) : wordBytes w = [BitVec.ofNat 8 (w.toNat / 256), BitVec.ofNat 8 (w.toNat % 256)] := by
  rw [wordBytes, hiByte_eq, loByte_eq]

/-! ## The frame of a step -/

/-- The frame of a step of the oldest sealed group, in the other phases than JOURNAL (R53, R55 to R57). -/
theorem State.stepFrame_of_phase {s : State} {g : Group} {gs : List Group} (hg : s.queue.sealed = g :: gs) :
    (s.engine.state = .phase .verify →
        s.stepFrame = .read (s.addrOf s.ring.dev) (s.recordAddr g 0) (recordSize g.entries))
      ∧ (s.engine.state = .phase .commit →
        s.stepFrame = .write (s.addrOf s.ring.dev) (s.recordAddr g 12) (wordBytes (~~~ g.seqOrZero)))
      ∧ (∀ e, s.engine.state = .phase .apply → g.entries[s.engine.pointer]? = some e →
        s.stepFrame = .write (s.addrOf e.dev) e.start e.data)
      ∧ (s.engine.state = .phase .retire →
        s.stepFrame = .write (s.addrOf s.ring.dev) (s.recordAddr g 14) (wordBytes g.seqOrZero)) := by
  refine ⟨fun he => ?_, fun he => ?_, fun e he hx => ?_, fun he => ?_⟩
  · simp [State.stepFrame, he, State.currentGroup_of_phase he, hg]
  · simp [State.stepFrame, he, State.currentGroup_of_phase he, hg]
  · simp [State.stepFrame, he, State.currentGroup_of_phase he, hg, hx]
  · simp [State.stepFrame, he, State.currentGroup_of_phase he, hg]

/-! ## Acknowledged polls -/

theorem State.setStateAt_eq {s : State} {a : DevAddr} {i : Nat} (v : DevState) (hi : s.indexOf a = some i) :
    s.setStateAt a v = { s with down := { s.down with states := s.down.states.set i v } } := by
  simp only [State.setStateAt, hi]
  rfl

/-- The poll ended, its device READY (R153, R155). -/
def State.pollOver (i : Nat) (s : State) : State :=
  { s with down := { s.down with states := s.down.states.set i .ready, poll := none } }

theorem exec_pollAcknowledged {s : State} {r : Requester} {p : Poll} {i : Nat} (h : polling s r p)
    (hi : s.indexOf p.addr = some i) :
    exec .pollAttemptAcknowledged s = .next (s.conclude ((s.pollOver i).afterPoll r p)) := by
  obtain ⟨hd, hg, hp, ha, hc⟩ := h
  have hready : (s.setStateAt p.addr .ready).endPoll = s.pollOver i := by
    rw [State.setStateAt_eq .ready hi]
    rfl
  change execPollAttemptAcknowledged s = _
  refine onEvent_of_next hd ?_
  rw [State.onAttempt_eq hg hp ha hc, State.pollAcknowledged, hready]

/-- A poll before a frame is followed by the frame within the same grant (R155). -/
theorem exec_pollAcknowledged_sends {s : State} {r : Requester} {p : Poll} {i : Nat} (h : polling s r p)
    (hi : s.indexOf p.addr = some i) (hf : p.followsWrite = false) (hr : r ≠ .homePoll)
    (he : r = .read ∨ r = .relay → s.down.ended = false) :
    exec .pollAttemptAcknowledged s = .next ((s.pollOver i).sendFrame r) := by
  have hg : s.down.grant = some r := h.2.1
  have hafter : (s.pollOver i).afterPoll r p = (s.pollOver i).sendFrame r := by
    cases r with
    | homePoll => exact absurd rfl hr
    | posted j | engine => simp [State.afterPoll, hf]
    | read => simp [State.afterPoll, State.pollOver, he (.inl rfl)]
    | relay => simp [State.afterPoll, State.pollOver, he (.inr rfl)]
    | setupRead | scanRead => rfl
  rw [exec_pollAcknowledged h hi, hafter, State.conclude_settled]
  exact .inl (by simp [State.pollOver, hg])

/-- Settles O32: the forms of the part's frames, the frame of each step, and the frame that follows the poll. -/
theorem acknowledgedPollSendsTheFrame : Obligations.AcknowledgedPollSendsTheFrame := by
  refine ⟨fun a w bs n => ?_, fun s g gs pl q tag hg hpl hq htag => ?_,
    fun s p i hf hi => ?_⟩
  · intro high low
    have hw : wordBytes w = [high, low] := wordBytes_eq w
    refine ⟨?_, ?_, ?_, fun r h ha hstart hr => ?_⟩
    · rw [Activity.sent, hw]; rfl
    · rw [Activity.sent, hw]; rfl
    · rw [Activity.sent, hw]; rfl
    · simp only [Relay.sent, hr, ha, hstart, hw]; rfl
  · intro two n ring address size header payload record
    have htwo : ∀ w, two w = wordBytes w := fun w => (wordBytes_eq w).symm
    have hseq : g.seqOrZero = q := by simp [Group.seqOrZero, hq]
    have htag : g.tagOrZero = tag := by simp [Group.tagOrZero, htag]
    have haddr : ∀ o, s.recordAddr g o = address o := fun o => by simp only [State.recordAddr, hpl]; rfl
    have hrecord : recordImage g pl.count = record := by
      have hheader : header = recordHead g pl.count := by
        simp only [header, htwo, recordHead, hseq, htag]
        rfl
      have hpayload : payload = payloadOf g.entries := by
        simp only [payload, htwo, payloadOf]
        rfl
      simp only [record, hheader, hpayload, htwo, recordImage, hseq]
    obtain ⟨hverify, hcommit, happly, hretire⟩ := State.stepFrame_of_phase hg
    refine ⟨hrecord, fun he => ?_, fun he => ?_, fun he => ?_, happly, fun he => ?_⟩
    · have himage : g.image = record := by
        rw [Group.image, hpl]
        exact hrecord
      rw [State.stepFrame_journal he hg, haddr, himage]
      rfl
    · rw [hverify he, haddr]; rfl
    · rw [hcommit he, haddr, hseq, htwo]
    · rw [hretire he, haddr, hseq, htwo]
  · intro states sent
    refine ⟨fun j d rs h hj => ?_, fun h => ?_, fun h hphase he => ?_, fun r h hr he => ?_, fun h => ?_⟩
    · have hslot : (s.pollOver i).forward.get j = .performing d rs := hj
      rw [exec_pollAcknowledged_sends h hi hf nofun (by simp)]
      simp only [State.sendFrame, hslot]
      rfl
    · rw [exec_pollAcknowledged_sends h hi hf nofun (by simp)]
      rfl
    · have hopening : (s.pollOver i).read.phase = .opening := hphase
      rw [exec_pollAcknowledged_sends h hi hf nofun fun _ => he]
      simp only [State.sendFrame, hopening, if_true]
      rfl
    · rw [exec_pollAcknowledged_sends h hi hf nofun fun _ => he]
      simp [State.sendFrame, State.updRelay, State.pollOver, hr, states]
    · rw [exec_pollAcknowledged_sends h hi hf nofun (by simp)]
      rfl

/-! ## Operations that end at their poll -/

/-- The setup read granted and sent, the home device READY (R8, R20, R154). -/
theorem State.openGrant_setupRead_ready {s : State} (h : s.devState 0 = .ready) :
    s.openGrant .setupRead =
      { s with
        setup := { s.setup with attempt := if s.setup.attempt = .requested then .granted else s.setup.attempt }
        down :=
          { s.down with
            activity :=
              .read (homeAddr s.setup.straps) (BitVec.ofNat 16 (setupBase s.setup.straps)) Config.areaSize } } := by
  have hdev : (s.updSetup fun st =>
      { st with attempt := if st.attempt = .requested then .granted else st.attempt }).devState 0 = .ready := h
  simp only [State.openGrant, State.granted, State.target, hdev, State.sendFrame]
  rfl

/-- With the bus free and the setup read the only request, it is granted, and sent if the home device is READY (R151,
R154). -/
theorem State.conclude_setupRead_ready (s0 : State) {s : State} (hg : s.down.grant = none) (hu : s.down.upFifo = [])
    (hi : s.down.intReqs = [.setupRead]) (hd : s.devState 0 = .ready) :
    s0.conclude s =
      { s with
        setup := { s.setup with attempt := if s.setup.attempt = .requested then .granted else s.setup.attempt }
        down :=
          { s.down with
            intReqs := [], grant := some .setupRead, fairness := 0, detections := 0, ended := false
            speed := s.setup.tables.speed
            activity :=
              .read (homeAddr s.setup.straps) (BitVec.ofNat 16 (setupBase s.setup.straps)) Config.areaSize } } := by
  have hc : ∀ raced,
      s.choose raced = some (.setupRead, { s with down := { s.down with intReqs := [], fairness := 0 } }) := by
    intro raced
    unfold State.choose
    rw [hu, hi]
    rfl
  have ho := State.openGrant_setupRead_ready
    (s := State.award .setupRead { s with down := { s.down with intReqs := [], fairness := 0 } }) hd
  unfold State.conclude
  rw [State.grantLoop_step _ hg (hc _), ho]
  exact State.grantLoop_granted _ _ rfl

theorem State.slotDone_of_not_held {s : State} (i : SlotId) (h : s.port.hold ≠ .a) :
    s.slotDone i = { s with forward := s.forward.set i .free } := by
  unfold State.slotDone State.releasePosted
  split
  · rfl
  · rw [if_neg]
    · rfl
    · rintro ⟨-, ha, -⟩
      exact h ha

/-- A POSTED frame held for the forward queue takes the slot that is free again (R130, R137). -/
theorem State.slotDone_of_held {s : State} {i j : SlotId} {f : Frame} {d : Nat} {a : Word} (hh : s.port.hold = .a)
    (hf : s.port.frame = some f) (hcls : f.cls = .posted) (hdead : f.dead = false) (hdev : f.dev = some d)
    (hstart : f.start = some a) (hj : (s.forward.set i .free).freeSlot = some j) :
    s.slotDone i =
      { s with
        forward := (s.forward.set i .free).set j (.collecting d a (emptyPage (s.setup.tables.pageSize d) a))
        port :=
          { s.port with
            pointers := s.port.pointers.set d a, hold := .none, holdTimer := none, idleTimer := some f.idleLimit
            answer := some true } } := by
  simp [State.slotDone, State.releasePosted, State.setSlot, State.updForward, hf, hcls, hh, hdead, hj, hdev, hstart,
    State.reserveSlot, State.setPointer, State.releaseHold, State.answerWith, State.updPort]
  rfl

/-- Settles O33: the grant goes back, and what waited for it, a held frame or a setup read, goes on. -/
theorem acknowledgedPollEndsTheOperation : Obligations.AcknowledgedPollEndsTheOperation := by
  intro s p k hu hint hk states freed
  have hfree : ∀ {t : State}, t.down = freed → t.settled := fun h => .inr ⟨by rw [h]; exact hu, by rw [h]; exact hint⟩
  have hrequest : ∀ st : Setup, states.getD 0 .ready = .ready →
      s.conclude (State.requestLoad { s with setup := st, down := freed }) =
        { s with
          setup := { st with readAttempts := 0, attempt := if st.attempt = .requested then .granted else st.attempt }
          down :=
            { freed with
              grant := some .setupRead, fairness := 0, detections := 0, speed := st.tables.speed
              activity :=
                .read (homeAddr st.straps) (BitVec.ofNat 16 (setupBase st.straps)) Config.areaSize } } := by
    intro st hready
    have hqueue : (State.requestLoad { s with setup := st, down := freed }).down.intReqs = [.setupRead] :=
      congrArg (· ++ [Requester.setupRead]) hint
    rw [State.conclude_setupRead_ready s (s := State.requestLoad { s with setup := st, down := freed }) rfl hu hqueue
      hready]
    have hnone : freed.intReqs = [] := hint
    rw [← hnone]
    rfl
  have hhome : ∀ st, s.down.states = [st] → k = 0 → states.getD 0 .ready = .ready := by
    intro st hst hk0
    simp [states, hst, hk0]
  refine ⟨fun i h hf hh => ?_, fun i j f d a h hf hh hframe hcls hdead hdev hstart _ hj => ?_,
    fun h hconf hatt hst hk0 => ?_, fun h he hatt => ?_, fun st h he hconf hatt hst hk0 => ?_, fun h he => ?_⟩
  · have hafter : (s.pollOver k).afterPoll (.posted i) p = (s.pollOver k).freeBus.slotDone i := by
      simp [State.afterPoll, hf]
    have hhold : (s.pollOver k).freeBus.port.hold ≠ .a := by
      rw [show (s.pollOver k).freeBus.port.hold = _ from hh]
      nofun
    rw [exec_pollAcknowledged h hk, hafter, State.slotDone_of_not_held i hhold, State.conclude_settled]
    · rfl
    · exact hfree rfl
  · have hafter : (s.pollOver k).afterPoll (.posted i) p = (s.pollOver k).freeBus.slotDone i := by
      simp [State.afterPoll, hf]
    rw [exec_pollAcknowledged h hk, hafter,
      State.slotDone_of_held (s := (s.pollOver k).freeBus) hh hframe hcls hdead hdev hstart hj, State.conclude_settled]
    · rfl
    · exact hfree rfl
  · have hafter : (s.pollOver k).afterPoll .homePoll p
        = ((s.pollOver k).freeBus.updSetup fun st => { st with phase := .loading }).requestLoad := rfl
    have hgo := hrequest { s.setup with phase := .loading } (hhome _ hst hk0)
    rw [if_neg (by simp [hatt])] at hgo
    rw [exec_pollAcknowledged h hk, hafter]
    exact congrArg Host.Outcome.next hgo
  · have hafter : (s.pollOver k).afterPoll .relay p = (s.pollOver k).freeBus := by
      have hended : (s.pollOver k).down.ended = true := he
      have hattempt : (s.pollOver k).setup.attempt ≠ .awaitPoll := hatt
      simp [State.afterPoll, hended, State.attemptPolled, hattempt]
    rw [exec_pollAcknowledged h hk, hafter, State.conclude_settled]
    · rfl
    · exact hfree rfl
  · have hafter : (s.pollOver k).afterPoll .relay p
        = ((s.pollOver k).freeBus.updSetup fun st => { st with attempt := .requested }).requestLoad := by
      have hended : (s.pollOver k).down.ended = true := he
      have hattempt : (s.pollOver k).setup.attempt = .awaitPoll := hatt
      simp [State.afterPoll, hended, State.attemptPolled, hattempt]
    rw [exec_pollAcknowledged h hk, hafter]
    exact congrArg Host.Outcome.next (hrequest { s.setup with attempt := .requested } (hhome st hst hk0))
  · have hafter : (s.pollOver k).afterPoll .read p = (s.pollOver k).freeBus := by
      have hended : (s.pollOver k).down.ended = true := he
      simp [State.afterPoll, hended]
    rw [exec_pollAcknowledged h hk, hafter, State.conclude_settled]
    · rfl
    · exact hfree rfl

/-! ## Steps that end at their poll -/

theorem State.updCurrent_eq {s : State} {g : Group} {gs : List Group} (F : Group → Group)
    (hg : s.queue.sealed = g :: gs) :
    s.updCurrent F = { s with queue := { s.queue with sealed := F g :: gs } } := by
  simp [State.updCurrent, State.updQueue, hg]

/-- The state at a boundary before a step of the oldest sealed group: the step is requested, or remembered by an engine
that a pause request stops (R50, R64). -/
theorem State.atBoundary_step (ph : Phase) (n : Nat) (s : State) :
    s.atBoundary (.step ph n) =
      if s.engine.pauseRequested = true then
        { s with engine := { s.engine with state := .paused, attempts := 0, remembered := some (.step ph n) } }
      else
        { s with
          engine := { s.engine with state := .phase ph, pointer := n, attempts := 0, remembered := none }
          down := { s.down with intReqs := s.down.intReqs ++ [.engine] } } := rfl

/-- The state after a write step whose next step is given, the oldest sealed group standing as given. -/
theorem State.writeStepDone_next {s : State} {g : Group} {gs : List Group} (hg : s.queue.sealed = g :: gs) :
    (s.engine.state = .phase .journal → s.engine.pointer + 1 < (g.placement.map Placement.count).getD 0 →
        s.writeStepDone = s.atBoundary (.step .journal (s.engine.pointer + 1)))
      ∧ (s.engine.state = .phase .journal → (g.placement.map Placement.count).getD 0 ≤ s.engine.pointer + 1 →
        s.writeStepDone = (s.updCurrent fun g => { g with state := .verifying }).atBoundary (.step .verify 0))
      ∧ (s.engine.state = .phase .commit →
        s.writeStepDone = (s.updCurrent fun g => { g with state := .applying }).atBoundary (.step .apply 0))
      ∧ (s.engine.state = .phase .apply → s.engine.pointer + 1 < g.entries.length →
        s.writeStepDone = (s.updCurrent fun g => { g with progress := s.engine.pointer + 1 }).atBoundary
          (.step .apply (s.engine.pointer + 1)))
      ∧ (s.engine.state = .phase .apply → g.entries.length ≤ s.engine.pointer + 1 →
        s.writeStepDone = ((s.updCurrent fun g => { g with progress := s.engine.pointer + 1 }).updCurrent
          fun g => { g with state := .retiring }).atBoundary (.step .retire 0)) := by
  refine ⟨fun he hn => ?_, fun he hn => ?_, fun he => ?_, fun he hn => ?_, fun he hn => ?_⟩
  all_goals simp only [State.writeStepDone, he, State.currentGroup_of_phase he, hg, List.head?_cons]
  · rw [if_pos hn]
  · rw [if_neg (Nat.not_lt.2 hn)]
  · rw [if_pos hn]
  · rw [if_neg (Nat.not_lt.2 hn)]

/-- The engine enters HALTED at a step, and during replay configuration entry opens the gate (R62, R171, R180). -/
theorem State.halt_eq {s : State} {ph : Phase} (c : FaultCode) (he : s.engine.state = .phase ph) :
    s.halt c =
      entryOver .replaying
        { s with
          engine :=
            { s.engine with
              state := .halted, remembered := some (.step ph s.engine.pointer), faultCode := c
              faultDevice := some s.stepDevice } } := by
  have hstep : s.engine.failedStep = some (.step ph s.engine.pointer) := by simp only [Engine.failedStep, he]
  simp only [State.halt, hstep, State.updEngine]
  rfl

/-- Settles O34: each phase goes on with its next step, and a refused frame is repeated or halts the engine. -/
theorem acknowledgedPollEndsTheStep : Obligations.AcknowledgedPollEndsTheStep := by
  intro s p k h hf hk down requested
  have hexec : exec .pollAttemptAcknowledged s = .next (s.conclude ((s.pollOver k).afterPoll .engine p)) :=
    exec_pollAcknowledged h hk
  refine ⟨fun g gs hr hg => ?_, fun hr hn => ?_, fun ph hr hn he => ?_⟩
  · intro next pages n
    have hafter : (s.pollOver k).afterPoll .engine p = (s.pollOver k).freeBus.writeStepDone := by
      simp [State.afterPoll, hf, hr]
    have hcurrent : ∀ F : Group → Group, (s.pollOver k).freeBus.updCurrent F
        = { s with queue := { s.queue with sealed := F g :: gs }, down := down } := fun F => State.updCurrent_eq F hg
    have hsame : (s.pollOver k).freeBus = (s.pollOver k).freeBus.updCurrent id := by
      rw [hcurrent, id, ← hg]
      rfl
    obtain ⟨hpage, hlast, hcommit, happly, hdone⟩ := State.writeStepDone_next (s := (s.pollOver k).freeBus) hg
    rw [hexec, hafter]
    refine ⟨fun he hn => ?_, fun he hn => ?_, fun he => ?_, fun he hn => ?_, fun he hn => ?_⟩
    · rw [hpage he hn, hsame, hcurrent, State.atBoundary_step]; rfl
    · rw [hlast he hn, hcurrent, State.atBoundary_step]; rfl
    · rw [hcommit he, hcurrent, State.atBoundary_step]; rfl
    · rw [happly he hn, hcurrent, State.atBoundary_step]; rfl
    · rw [hdone he hn, hcurrent, State.updCurrent_eq _ rfl, State.atBoundary_step]; rfl
  · have hafter : (s.pollOver k).afterPoll .engine p = (s.pollOver k).freeBus.placeInternal .engine := by
      have hlt : (s.pollOver k).freeBus.engine.attempts < Config.attemptMax := hn
      simp only [State.afterPoll, hf, hr, if_true, State.repeatOrHalt, hlt]
    rw [hexec, hafter]
    rfl
  · have hafter : (s.pollOver k).afterPoll .engine p = (s.pollOver k).freeBus.halt .writeRefused := by
      have hlt : ¬ (s.pollOver k).freeBus.engine.attempts < Config.attemptMax := Nat.not_lt.2 hn
      simp only [State.afterPoll, hf, hr, if_true, State.repeatOrHalt, hlt, if_false]
    rw [hexec, hafter, State.halt_eq _ (s := (s.pollOver k).freeBus) he]
    rfl

/-! ## Retirement -/

theorem State.takeClaims_of_nil {s : State} (h : s.store.claims = []) : s.takeClaims = s := by
  have hstore : ({ s.store with claims := [] } : Store) = s.store := by rw [← h]
  rw [State.takeClaims, h]
  change { s with store := { s.store with claims := [] } } = s
  rw [hstore]

/-- With no group sealed, the engine at its boundary goes to IDLE, or to PAUSED if that is requested (R51, R64). -/
theorem State.atBoundary_idle {s : State} (h : s.queue.sealed = []) :
    s.atBoundary .idle =
      { s with
        engine :=
          if s.engine.pauseRequested = true then
            { s.engine with state := .paused, attempts := 0, remembered := some .idle }
          else { s.engine with state := .idle, attempts := 0, remembered := none } } := by
  have hstart : s.engineIdle.startGroup = s.engineIdle := by
    unfold State.startGroup
    split
    · rw [show s.engineIdle.oldestSealed = none from congrArg List.head? h]
    · rfl
  rw [State.atBoundary, State.takeNext, hstart]
  split <;> rfl

/-- Settles O35: the group's removal, the engine at its boundary, and the end of a replay. -/
theorem retirementRemovesTheGroup : Obligations.RetirementRemovesTheGroup := by
  intro s p k g pl q tag h hf hr hk hg hclaims he hlive hq htag hu hint retired
  have hexec : exec .pollAttemptAcknowledged s = .next (s.conclude ((s.pollOver k).afterPoll .engine p)) :=
    exec_pollAcknowledged h hk
  have hphase : (s.pollOver k).freeBus.engine.state = .phase .retire := he
  have hcurrent : (s.pollOver k).freeBus.currentGroup = some g :=
    (State.currentGroup_of_phase hphase).trans (congrArg List.head? hg)
  have hafter : (s.pollOver k).afterPoll .engine p = (s.pollOver k).freeBus.retire := by
    simp only [State.afterPoll, hf, hr, if_true, Bool.false_eq_true, if_false, State.writeStepDone, hphase, hcurrent]
  have hremoved : (s.pollOver k).freeBus.removeRetired g = { retired with engine := s.engine } := by
    have hseq : g.seqOrZero = q := by simp [Group.seqOrZero, hq]
    have htag' : g.tagOrZero = tag := by simp [Group.tagOrZero, htag]
    have hlive' : (s.pollOver k).freeBus.journal.live = some pl := hlive
    have htail : (s.pollOver k).freeBus.queue.sealed.tail = [] := congrArg List.tail hg
    simp only [State.removeRetired, hseq, htag', hlive', State.updQueue, htail]
    rfl
  have hretire : (s.pollOver k).freeBus.retire = retired.replayEnd := by
    have hnone : ({ retired with engine := s.engine } : State).store.claims = [] := hclaims
    rw [State.retire, hcurrent]
    simp only
    rw [hremoved, State.takeClaims_of_nil hnone, State.atBoundary_idle rfl]
  have hidle : s.engine.pauseRequested = false → retired.engine.state = .idle := by
    intro hpause
    simp [retired, hpause]
  rw [hexec, hafter, hretire]
  have hsetup : retired.setup.phase = s.setup.phase ∧ retired.setup.repeatDue = s.setup.repeatDue
      ∧ retired.setup.readAttempts = s.setup.readAttempts := by
    simp only [retired]
    split
    · split <;> exact ⟨rfl, rfl, rfl⟩
    · exact ⟨rfl, rfl, rfl⟩
  obtain ⟨hkeep, hdue, hcount⟩ := hsetup
  refine ⟨fun hp => ?_, fun hp hpause hnone => ?_, fun hp hpause hreload => ?_⟩
  · rw [State.replayEnd, if_neg (fun hc => hp (hkeep ▸ hc.1)), State.conclude_settled]
    exact .inr ⟨hu, hint⟩
  · rw [State.replayEnd, if_pos ⟨hkeep.trans hp, hidle hpause, rfl, hclaims⟩, if_pos hnone, State.conclude_settled,
      entryOver, if_pos (hkeep.trans hp)]
    · rfl
    · exact .inr ⟨hu, hint⟩
  · rw [State.replayEnd, if_pos ⟨hkeep.trans hp, hidle hpause, rfl, hclaims⟩, if_neg hreload]
    have hqueue : retired.down.intReqs ++ [Requester.setupRead] = [.setupRead] := congrArg (· ++ [_]) hint
    have hreq : (retired.updSetup fun st => { st with phase := .reloading }).requestReload
        = { retired with
            setup :=
              { retired.setup with
                phase := .reloading, reload := .reading, stale := false, repeatDue := false
                readAttempts := if retired.setup.repeatDue = true then retired.setup.readAttempts else 0 }
            down := { retired.down with intReqs := retired.down.intReqs ++ [.setupRead] } } := rfl
    rw [hreq, hqueue, hdue, hcount]

/-! ## Refused attempts and expired polls -/

/-- Settles O36: an attempt refused before the poll's limit is followed by the interval, and later by the expiry. -/
theorem refusedAttemptWaitsOrExpires : Obligations.RefusedAttemptWaitsOrExpires := by
  intro s r p age
  refine ⟨fun h hage => ?_, fun h hage => ?_, fun hd hg hp ha hc => ?_⟩
  · obtain ⟨hd, hg, hp, ha, hc⟩ := h
    have hyoung : p.aged age = false := by simpa [Poll.aged] using hage
    change execPollAttemptNak age s = _
    refine onEvent_of_next hd ?_
    rw [State.onAttempt_eq hg hp ha hc, hyoung]
    simp [State.waitInterval, State.updDown, hp]
  · obtain ⟨hd, hg, hp, ha, hc⟩ := h
    have hold : p.aged age = true := by simpa [Poll.aged] using hage
    have hnak : execPollAttemptNak age s = .next (s.conclude (s.expirePoll r p)) :=
      onEvent_of_next hd (by rw [State.onAttempt_eq hg hp ha hc, hold]; rfl)
    have hexpired : execPollExpired s = .next (s.conclude (s.expirePoll r p)) :=
      onEvent_of_next hd (by rw [State.onAttempt_eq hg hp ha hc])
    exact hnak.trans hexpired.symm
  · change execPollIntervalElapsed s = _
    exact onEvent_of_next hd (by simp [hg, hp, ha, hc, State.nextAttempt, State.updDown])

/-- The poll at its limit: its device FAULTED, and the operation failed (R153, R155). -/
theorem exec_pollExpired {s : State} {r : Requester} {p : Poll} {i : Nat} (h : polling s r p)
    (hi : s.indexOf p.addr = some i) :
    exec .pollExpired s = .next (s.conclude
      (State.failOp r .pollExpired { s with down := { s.down with states := s.down.states.set i .faulted } })) := by
  obtain ⟨hd, hg, hp, ha, hc⟩ := h
  change execPollExpired s = _
  refine onEvent_of_next hd ?_
  rw [State.onAttempt_eq hg hp ha hc, State.expirePoll, State.setStateAt_eq .faulted hi]

/-- The fallback, the downstream port standing as given (R179). -/
theorem State.fallback_eq (r : Reject) (s : State) :
    s.fallback r = fellBack s r { s.down with states := s.down.states.take 1 } := rfl

/-- A granted READ whose device byte is still held fails: the byte is refused, and the grant stays (R87, R96). -/
theorem State.readFailed_opening {s : State} {f : Frame} (he : s.down.ended = false) (hp : s.read.phase = .opening)
    (hf : s.port.frame = some f) :
    s.readFailed =
      { s with
        port := heldRefused s f, read := { s.read with phase := .dead }
        down := { s.down with poll := none, activity := .none } } := by
  rw [State.readFailed, if_neg (by simp [he])]
  simp only [hp]
  exact State.refuseRead_eq (s := s.endPoll.setActivity .none) hf

/-- A posted write fails with no frame held for its slot: FWD_FAIL, and the slot free (R110, R140). -/
theorem State.failOp_posted {s : State} {i : SlotId} {d : Nat} {rs : List Run} (c : OpFailure)
    (hi : s.forward.get i = .performing d rs) (hh : s.port.hold = .none) :
    s.failOp (.posted i) c =
      { s with
        forward := s.forward.set i .free
        window := { s.window with fwdFail := true, ffDevice := some d, ffAddr := (rs.head?.map Run.start).getD 0 }
        down := busFreed s.down } := by
  have hhold : (s.freeBus.forwardFailure (s.forward.get i).dev (s.forward.get i).start).port.hold ≠ .a := by
    rw [show (s.freeBus.forwardFailure _ _).port.hold = _ from hh]
    nofun
  rw [State.failOp, State.slotDone_of_not_held i hhold, hi]
  rfl

/-- Settles O37: the device FAULTED, and the engine, the slot, the READ or configuration entry failing by its rule. -/
theorem expiredPollFailsTheOperation : Obligations.ExpiredPollFailsTheOperation := by
  intro s p k hk hu hint states freed
  have hfree : ∀ {t : State}, t.down.upFifo = s.down.upFifo → t.down.intReqs = s.down.intReqs → t.settled :=
    fun h1 h2 => .inr ⟨h1.trans hu, h2.trans hint⟩
  refine ⟨fun ph h he => ?_, fun i d rs h hi hh => ?_, fun f h hp he hf => ?_, fun h => ?_⟩
  · rw [exec_pollExpired h hk, State.failOp,
      State.halt_eq (s := State.freeBus { s with down := { s.down with states := states } }) _ he,
      State.conclude_settled]
    · rfl
    · unfold entryOver
      split
      · exact hfree rfl rfl
      · exact hfree rfl rfl
  · rw [exec_pollExpired h hk,
      State.failOp_posted (s := { s with down := { s.down with states := states } }) .pollExpired hi hh,
      State.conclude_settled]
    exact hfree rfl rfl
  · rw [exec_pollExpired h hk, State.failOp,
      State.readFailed_opening (s := { s with down := { s.down with states := states } }) he hp hf,
      State.conclude_settled]
    · rfl
    · exact hfree rfl rfl
  · rw [exec_pollExpired h hk, State.failOp, State.fallback_eq, State.conclude_settled]
    · rfl
    · exact hfree rfl rfl

/-! ## Write frames and their polls -/

theorem State.pollAfterWrite_eq {s : State} {a : DevAddr} {i : Nat} (refused : Bool) (hi : s.indexOf a = some i) :
    s.pollAfterWrite a refused =
      { s with
        down :=
          { s.down with
            states := s.down.states.set i .busy
            poll := some
              { addr := a, limit := s.setup.tables.pollLimit, followsWrite := true, afterRefusal := refused
                attempt := false }
            activity := .none } } := by
  rw [State.pollAfterWrite, State.setStateAt_eq .busy hi]
  rfl

/-- Settles O38: a write frame, sent or refused, ends in the poll of its device. -/
theorem writeFrameEndsInItsPoll : Obligations.WriteFrameEndsInItsPoll := by
  intro s r a k h hk polled
  obtain ⟨hd, hg, hc, hp, w, bs, ha⟩ := h
  have hrefused : (s.noteRefusal r).indexOf a = some k →
      exec .frameRefused s = .next ((s.noteRefusal r).pollAfterWrite a true) := fun _ => by
    change execFrameRefused s = _
    exact onEvent_of_next hd (State.onWrite_eq hg hc hp ha _)
  refine ⟨?_, fun hr => ?_, fun i d rs hr hi => ?_⟩
  · change execWriteFrameSent s = _
    refine onEvent_of_next hd ?_
    rw [State.onWrite_eq hg hc hp ha, State.pollAfterWrite_eq false hk]
  · subst hr
    rw [hrefused hk, State.pollAfterWrite_eq (s := s.noteRefusal .engine) true hk]
    rfl
  · subst hr
    rw [hrefused hk, State.pollAfterWrite_eq (s := s.noteRefusal (.posted i)) true hk]
    simp only [State.noteRefusal, hi]
    rfl

end Sys2Proof.Machine
end

section
/-! PROOF. The part's own reads: refused reads, the verify read, the setup read of a load, the ring scan, and a reload
with its swap (chapters 1, 3, 4 and 11; O39 to O43). -/

namespace Sys2Proof.Machine

/-! ## Refused reads -/

/-- A refused read frees the bus, and its requester's rule gives what comes next (R8, R60, R83). -/
theorem exec_readFrameRefused {s : State} {r : Requester} {n : Nat} (h : reading s r n) :
    exec .readFrameRefused s = .next (s.conclude (s.freeBus.readRefused r)) := by
  obtain ⟨hd, hg, hc, hp, a, w, ha⟩ := h
  change execReadFrameRefused s = _
  exact onEvent_of_next hd (State.onRead_eq hg hc hp ha _)

/-- A step in VERIFY is aimed at the ring device (R50). -/
theorem State.stepDevice_verify {s : State} (he : s.engine.state = .phase .verify) : s.stepDevice = s.ring.dev := by
  simp only [State.stepDevice, he]

/-- A load attempt made while UNCONFIGURED is rejected outside LOADING (R15, R21). -/
theorem State.loadFailed_attempt {s : State} (r : Reject) (hc : s.setup.config = .unconfigured)
    (hp : s.setup.phase ≠ .loading) :
    s.loadFailed r =
      if s.setup.kept = true then
        ((s.rejectSetup r).updSetup fun st => { st with attempt := .requested, kept := false, loadBuffer := none }).requestLoad
      else (s.rejectSetup r).updSetup fun st => { st with attempt := .none, loadBuffer := none } := by
  simp only [State.loadFailed, hc, hp, if_false]
  rfl

/-- One attempt more of the setup read (R8). -/
def State.setupReadCounted (s : State) : State :=
  { s with setup := { s.setup with readAttempts := s.setup.readAttempts + 1 } }

/-- A refused setup read before the third: repeated at once, or held back where an engine step waits (R8, R16). -/
theorem State.setupReadRefused_early {s : State} (hn : s.setup.readAttempts + 1 < 3) :
    s.setupReadRefused =
      if s.setup.reload = .reading ∧ .engine ∈ s.down.intReqs then
        s.setupReadCounted.updSetup Setup.holdRepeat
      else s.setupReadCounted.placeInternal .setupRead := by
  have hmax : s.setupReadCounted.setup.readAttempts < Config.attemptMax := hn
  have hwaits : s.setupReadCounted.stepWaits = true ↔ .engine ∈ s.down.intReqs := decide_eq_true_iff
  change (if s.setupReadCounted.setup.readAttempts < Config.attemptMax then
      if s.setupReadCounted.setup.reload = .reading ∧ s.setupReadCounted.stepWaits then
        s.setupReadCounted.updSetup Setup.holdRepeat
      else s.setupReadCounted.placeInternal .setupRead
    else s.setupReadCounted.loadFailed .noAnswer) = _
  simp only [hmax, if_true, hwaits]
  rfl

/-- The third refused setup read is the end of the load (R8). -/
theorem State.setupReadRefused_last {s : State} (hn : 3 ≤ s.setup.readAttempts + 1) :
    s.setupReadRefused = s.setupReadCounted.loadFailed .noAnswer := by
  have hmax : ¬ s.setupReadCounted.setup.readAttempts < Config.attemptMax := Nat.not_lt.2 hn
  exact if_neg hmax

/-- A rejected reload, its bytes not stale, leaves the tables in force, and ends configuration entry in RELOADING
(R17, R181). -/
theorem State.rejectReload_eq {s : State} (r : Reject) (hs : s.setup.stale = false) :
    s.rejectReload r =
      entryOver .reloading
        { s with
          setup := { s.setup with reject := r, reload := .none, holding := none }
          window := { s.window with setupNotice := true } } := by
  have hsetup : ({ s.setup with reject := r, reload := .none, holding := none, stale := false } : Setup)
      = { s.setup with reject := r, reload := .none, holding := none } := by rw [← hs]
  have hrejected : ((s.rejectSetup r).updSetup fun st =>
        { st with reload := .none, holding := none, stale := false })
      = { s with
          setup := { s.setup with reject := r, reload := .none, holding := none }
          window := { s.window with setupNotice := true } } :=
    congrArg (fun st : Setup => { s with setup := st, window := { s.window with setupNotice := true } }) hsetup
  rw [State.rejectReload, hrejected]
  rfl

theorem State.loadFailed_configured {s : State} (r : Reject) (hc : s.setup.config = .configured)
    (hs : s.setup.stale = false) : s.loadFailed r = s.rejectReload r := by
  simp [State.loadFailed, hc, hs]

/-- In LOADING a load that fails falls back (R177, R179). -/
theorem State.loadFailed_loading {s : State} (r : Reject) (hc : s.setup.config = .unconfigured)
    (hp : s.setup.phase = .loading) :
    s.loadFailed r = fellBack s r { s.down with states := s.down.states.take 1 } := by
  simp only [State.loadFailed, hc, hp, if_true]
  rfl

/-- Settles O39: the same read again, or the requester's failure at the third refusal. -/
theorem refusedReadsAreRepeated : Obligations.RefusedReadsAreRepeated := by
  intro s n
  refine ⟨fun h => ⟨fun hn => ?_, fun hn he => ?_⟩,
    fun h => ⟨fun hn hw => ?_, fun hn hr hw => ?_, fun hn hc hs => ?_, fun hn hc hp => ?_⟩,
    fun sc h hsc => ⟨fun hn => ?_, fun hn => ?_⟩⟩
  · have hmax : s.freeBus.countAttempt.engine.attempts < Config.attemptMax := hn
    rw [exec_readFrameRefused h, State.readRefused, State.repeatOrHalt, if_pos hmax]
    rfl
  · have hmax : ¬ s.freeBus.countAttempt.engine.attempts < Config.attemptMax := Nat.not_lt.2 hn
    have hverify : s.freeBus.countAttempt.engine.state = .phase .verify := he
    rw [exec_readFrameRefused h, State.readRefused, State.repeatOrHalt, if_neg hmax, State.halt_eq _ hverify,
      State.stepDevice_verify hverify]
    rfl
  · have hnot : ¬ (s.freeBus.setup.reload = .reading ∧ .engine ∈ s.freeBus.down.intReqs) :=
      fun ⟨hr, hm⟩ => hw.elim (· hr) (· hm)
    rw [exec_readFrameRefused h, State.readRefused, State.setupReadRefused_early (s := s.freeBus) hn, if_neg hnot]
    rfl
  · have hboth : s.freeBus.setup.reload = .reading ∧ .engine ∈ s.freeBus.down.intReqs := ⟨hr, hw⟩
    rw [exec_readFrameRefused h, State.readRefused, State.setupReadRefused_early (s := s.freeBus) hn, if_pos hboth]
    rfl
  · rw [exec_readFrameRefused h, State.readRefused, State.setupReadRefused_last (s := s.freeBus) hn,
      State.loadFailed_configured (s := s.freeBus.setupReadCounted) _ hc hs,
      State.rejectReload_eq (s := s.freeBus.setupReadCounted) _ hs]
    rfl
  · rw [exec_readFrameRefused h, State.readRefused, State.setupReadRefused_last (s := s.freeBus) hn,
      State.loadFailed_loading (s := s.freeBus.setupReadCounted) _ hc hp]
    rfl
  · have hscan : s.freeBus.journal.scan = some sc := hsc
    have hmax : sc.attempts + 1 < Config.attemptMax := hn
    simp only [exec_readFrameRefused h, State.readRefused, State.scanReadRefused, hscan, if_pos hmax]
    rfl
  · have hscan : s.freeBus.journal.scan = some sc := hsc
    have hmax : ¬ sc.attempts + 1 < Config.attemptMax := Nat.not_lt.2 hn
    simp only [exec_readFrameRefused h, State.readRefused, State.scanReadRefused, hscan, if_neg hmax]
    rfl

/-! ## The verify read -/

theorem exec_verifyReadDone {s : State} {bs : List Byte} (h : reading s .engine bs.length) (hmin : 21 ≤ bs.length)
    (hmax : bs.length ≤ 1232) : exec (.verifyReadDone bs) s = .next (s.conclude (s.freeBus.verifyDone bs)) := by
  obtain ⟨hd, hg, hc, hp, a, w, ha⟩ := h
  change execVerifyReadDone bs s = _
  refine onEvent_of_next hd ?_
  have hformed : (Instr.verifyReadDone bs).wellFormed = true := decide_eq_true ⟨hmin, hmax⟩
  rw [if_pos hformed, State.onRead_eq hg hc hp ha, if_pos ⟨rfl, rfl⟩]

/-- The verify read decides by the bytes alone: their CRC holds if they are the record's (R53, R54). -/
theorem State.verifyDone_eq {s : State} {g : Group} {gs : List Group} {p : Placement} (bs : List Byte)
    (hg : s.queue.sealed = g :: gs) (hp : g.placement = some p) (he : s.engine.state = .phase .verify) :
    s.verifyDone bs =
      if bs = recordImage g p.count then
        State.atBoundary (.step .commit 0)
          { s with queue := { s.queue with sealed := { g with state := .committing } :: gs } }
      else if g.passes < 3 then
        State.atBoundary .freshPass
          { s with queue := { s.queue with sealed := { g with state := .journaling } :: gs } }
      else s.halt .verifyFailed := by
  have himage : g.image = recordImage g p.count := by rw [Group.image, hp]; rfl
  simp only [State.verifyDone, State.currentGroup_of_phase he, hg, List.head?_cons, himage, verify_iff,
    State.updCurrent_eq _ hg, decide_eq_true_eq]
  rfl

/-- A journal pass at a boundary with no pause requested: the placement fixed earlier stays (R52, R54). -/
theorem State.atBoundary_freshPass {s : State} {g : Group} {gs : List Group} {p : Placement}
    (hq : s.engine.pauseRequested = false) (hg : s.queue.sealed = g :: gs) (hp : g.placement = some p) :
    s.atBoundary .freshPass =
      { s with
        queue := { s.queue with sealed := { g with state := .journaling, passes := g.passes + 1 } :: gs }
        journal := { s.journal with live := some p }
        engine := { s.engine with state := .phase .journal, pointer := 0, attempts := 0, remembered := none }
        down := { s.down with intReqs := s.down.intReqs ++ [.engine] } } := by
  have hplaced : ({ g with state := .journaling, passes := g.passes + 1, placement := some p } : Group)
      = { g with state := .journaling, passes := g.passes + 1 } := by rw [← hp]
  simp only [State.atBoundary, hq, Bool.false_eq_true, if_false, State.takeNext, State.beginPass_eq hg, hp,
    Option.getD_some, hplaced]

/-- Settles O40: COMMIT on equal bytes, else a new pass or the halt, and a requested pause at the boundary. -/
theorem verifyReadDecides : Obligations.VerifyReadDecides := by
  intro s bs g gs p h hmin hmax hg hp he image again paused
  have hexec := exec_verifyReadDone h hmin hmax
  rw [State.verifyDone_eq (s := s.freeBus) bs hg hp he] at hexec
  refine ⟨fun hb hq => ?_, fun hb hq => ?_, fun hb hn hq => ?_, fun hb hn hq => ?_, fun hb hn => ?_⟩
  · rw [hexec, if_pos hb, State.atBoundary_runs]
    · rfl
    · exact hq
  · rw [hexec, if_pos hb, State.atBoundary_pauses]
    · rfl
    · exact hq
  · rw [hexec, if_neg hb, if_pos hn]
    exact congrArg (fun t => Host.Outcome.next (s.conclude t))
      (State.atBoundary_freshPass (g := { g with state := .journaling }) hq rfl hp)
  · rw [hexec, if_neg hb, if_pos hn, State.atBoundary_pauses]
    · rfl
    · exact hq
  · rw [hexec, if_neg hb, if_neg (Nat.not_lt.2 hn), State.halt_eq (s := s.freeBus) _ he,
      State.stepDevice_verify (s := s.freeBus) he]
    rfl

/-! ## The setup read of a load -/

theorem exec_setupReadDone {s : State} {bs : List Byte} {n : Nat} (h : reading s .setupRead n) (hl : bs.length = 128) :
    exec (.setupReadDone bs) s = .next (s.conclude (s.freeBus.loadRead bs)) := by
  obtain ⟨hd, hg, hc, hp, a, w, ha⟩ := h
  change execSetupReadDone bs s = _
  refine onEvent_of_next hd ?_
  have hformed : (Instr.setupReadDone bs).wellFormed = true := decide_eq_true hl
  rw [if_pos hformed, State.onRead_eq hg hc hp ha, if_pos rfl]

/-- While UNCONFIGURED the record is accepted, or the load fails with the verdict (R9, R15). -/
theorem State.loadRead_unconfigured {s : State} (bs : List Byte) (hc : s.setup.config = .unconfigured) :
    s.loadRead bs =
      if validate s.setup.straps bs = .none then s.acceptLoad bs else s.loadFailed (validate s.setup.straps bs) := by
  simp only [State.loadRead, hc]
  split
  · next hv => rw [if_pos hv]
  · next hv => rw [if_neg hv]

/-- While CONFIGURED bytes not stale are held for the swap, or the reload is rejected (R16, R17). -/
theorem State.loadRead_configured {s : State} (bs : List Byte) (hc : s.setup.config = .configured)
    (hs : s.setup.stale = false) :
    s.loadRead bs =
      if validate s.setup.straps bs = .none then s.updSetup fun st => { st with reload := .waitSwap, holding := some bs }
      else s.rejectReload (validate s.setup.straps bs) := by
  simp only [State.loadRead, hc, hs, Bool.false_eq_true, if_false]
  split
  · next hv => rw [if_pos hv]
  · next hv => rw [if_neg hv]

/-- The acceptance with no frame to catch (R119). -/
theorem State.acceptLoad_uncaught {s : State} (bs : List Byte) (h : s.setup.phase = .loading ∨ s.port.frame = none) :
    s.freeBus.acceptLoad bs = loadAccepted s bs := by
  have hcaught : s.freeBus.setup.phase = .loading ∨ s.freeBus.port.frame = none := h
  have hengine : ({ s.engine with
        pauseRequested := false
        state := if s.engine.state = .paused then .idle else s.engine.state
        remembered := if s.engine.state = .paused then none else s.engine.remembered } : Engine)
      = if s.engine.state = .paused then { s.engine with state := .idle, pauseRequested := false, remembered := none }
        else { s.engine with pauseRequested := false } := by
    split <;> rfl
  unfold State.acceptLoad
  simp only [if_pos hcaught]
  exact congrArg (fun e => { loadAccepted s bs with engine := e }) hengine

/-- The frame caught by the gate: its byte refused if it is held at A, its request withdrawn (R119, R150). -/
theorem State.catchFrame_eq {s : State} {f : Frame} (hf : s.port.frame = some f) :
    s.catchFrame.dropRelay =
      { s with
        port := if s.port.hold = .a then heldRefused s f else { s.port with frame := some { f with dead := true } }
        relay := none
        read := { s.read with phase := if s.read.phase = .requested then .dead else s.read.phase }
        down := { s.down with upFifo := s.down.upFifo.filter fun q => decide (q ≠ .read ∧ q ≠ .relay) } } := by
  have hkill : s.killFrame = { s with port := { s.port with frame := some { f with dead := true } } } := by
    simp [State.killFrame, State.updFrame, State.updPort, hf]
  have hqueue : (s.down.upFifo.filter fun q => decide (q ≠ .read)).filter (fun q => decide (q ≠ .relay))
      = s.down.upFifo.filter fun q => decide (q ≠ .read ∧ q ≠ .relay) := by
    rw [List.filter_filter]
    congr 1
    funext q
    simp [Bool.and_comm]
  rw [← hqueue, State.catchFrame]
  split
  · rw [State.refuseHeld_eq hf]
    rfl
  · rw [hkill]
    rfl

/-- The acceptance outside LOADING with a frame in progress is the one that finds the frame caught (R119). -/
theorem State.acceptLoad_caught {s : State} (bs : List Byte) (hp : s.setup.phase ≠ .loading) (hf : s.port.frame ≠ none) :
    s.acceptLoad bs =
      State.acceptLoad bs (s.catchFrame.dropRelay.updSetup fun st => { st with phase := .loading }) := by
  unfold State.acceptLoad
  simp only [if_neg (fun h : _ ∨ _ => h.elim hp hf)]
  rfl

/-- The end of configuration entry, phase and gate apart (R182). -/
theorem entryOver_eq (p : EntryPhase) (s : State) :
    entryOver p s =
      { s with
        setup := { s.setup with phase := if s.setup.phase = p then .none else s.setup.phase }
        port := { s.port with gate := if s.setup.phase = p then .opn else s.port.gate } } := by
  unfold entryOver
  split <;> rfl

/-- Settles O41: the acceptance, the fallback and the other rejections, and the three ends of a reload's read. -/
theorem setupReadEndsTheLoad : Obligations.SetupReadEndsTheLoad := by
  intro s bs h hl verdict noted
  have hexec := exec_setupReadDone h hl
  have hunconf : s.setup.config = .unconfigured → s.freeBus.loadRead bs =
      if verdict = .none then s.freeBus.acceptLoad bs else s.freeBus.loadFailed verdict :=
    fun hc => State.loadRead_unconfigured (s := s.freeBus) bs hc
  have hconf : s.setup.config = .configured → s.setup.stale = false → s.freeBus.loadRead bs =
      if verdict = .none then s.freeBus.updSetup fun st => { st with reload := .waitSwap, holding := some bs }
      else s.freeBus.rejectReload verdict :=
    fun hc hs => State.loadRead_configured (s := s.freeBus) bs hc hs
  refine ⟨fun hc hv hp => ?_, fun hc hv _ hf => ?_, fun f hc hv hp hf => ?_, fun hc hv hp => ?_, fun hc hv hp hk => ?_,
    fun hc hv hp hk => ?_, fun hc hs hv => ?_, fun hc hs hv => ?_, fun hc hs => ?_⟩
  · rw [hexec, hunconf hc, if_pos hv, State.acceptLoad_uncaught bs (.inl hp)]
  · rw [hexec, hunconf hc, if_pos hv, State.acceptLoad_uncaught bs (.inr hf)]
  · have hsome : s.freeBus.port.frame = some f := hf
    have hcaught : (s.freeBus.catchFrame.dropRelay.updSetup fun st => { st with phase := .loading })
        = State.freeBus
            { s with
              setup := { s.setup with phase := .loading }
              port :=
                if s.port.hold = .a then heldRefused s f else { s.port with frame := some { f with dead := true } }
              relay := none
              read := { s.read with phase := if s.read.phase = .requested then .dead else s.read.phase }
              down := { s.down with upFifo := s.down.upFifo.filter fun q => decide (q ≠ .read ∧ q ≠ .relay) } } := by
      rw [State.catchFrame_eq hsome]
      rfl
    rw [hexec, hunconf hc, if_pos hv, State.acceptLoad_caught (s := s.freeBus) bs hp (by rw [hsome]; nofun), hcaught,
      State.acceptLoad_uncaught bs (.inl rfl)]
    intro u caughtPort
    by_cases hh : s.port.hold = .a
    · simp only [caughtPort, if_pos hh]
      rfl
    · simp only [caughtPort, if_neg hh]
      rfl
  · rw [hexec, hunconf hc, if_neg hv, State.loadFailed_loading (s := s.freeBus) _ hc hp]
    rfl
  · have hkept : ¬ s.freeBus.setup.kept = true := by simp [State.freeBus, State.updDown, hk]
    rw [hexec, hunconf hc, if_neg hv, State.loadFailed_attempt (s := s.freeBus) _ hc hp, if_neg hkept]
    rfl
  · have hkept : s.freeBus.setup.kept = true := hk
    rw [hexec, hunconf hc, if_neg hv, State.loadFailed_attempt (s := s.freeBus) _ hc hp, if_pos hkept]
    rfl
  · rw [hexec, hconf hc hs, if_pos hv]
    rfl
  · rw [hexec, hconf hc hs, if_neg hv, State.rejectReload_eq (s := s.freeBus) _ hs, entryOver_eq]
    rfl
  · have hstale : s.freeBus.loadRead bs = s.freeBus.staleReadEnded := by
      simp [State.loadRead, State.freeBus, State.updDown, hc, hs]
    rw [hexec, hstale]
    rfl

end Sys2Proof.Machine
end

section
/-! PROOF. The ring scan (section 4.5) and the steps of a reload (R16, R18; O42 and O43). -/

namespace Sys2Proof.Machine

/-! ## The scan's reads -/

theorem exec_scanHeaderReadDone {s : State} {bs : List Byte} {o n k : Nat} {cs : List Candidate}
    (h : reading s .scanRead n) (hl : bs.length = 16)
    (hs : s.journal.scan = some { stage := .headers o, attempts := k, cands := cs }) :
    exec (.scanHeaderReadDone bs) s = .next (s.conclude (s.freeBus.scanHeader o cs bs)) := by
  obtain ⟨hd, hg, hc, hp, a, w, ha⟩ := h
  change execScanHeaderReadDone bs s = _
  refine onEvent_of_next hd ?_
  have hformed : (Instr.scanHeaderReadDone bs).wellFormed = true := decide_eq_true hl
  rw [if_pos hformed, State.onRead_eq hg hc hp ha]
  simp only [hs]

theorem exec_scanRecordReadDone {s : State} {bs : List Byte} {o k : Nat} {cs : List Candidate}
    (h : reading s .scanRead bs.length) (hl : 16 ≤ bs.length)
    (hs : s.journal.scan = some { stage := .record o, attempts := k, cands := cs }) :
    exec (.scanRecordReadDone bs) s = .next (s.conclude (s.freeBus.scanRecord o cs bs)) := by
  obtain ⟨hd, hg, hc, hp, a, w, ha⟩ := h
  change execScanRecordReadDone bs s = _
  refine onEvent_of_next hd ?_
  have hformed : (Instr.scanRecordReadDone bs).wellFormed = true := decide_eq_true hl
  rw [if_pos hformed, State.onRead_eq hg hc hp ha]
  simp only [hs, if_true]

/-- Candidates that need another read have it requested, and else the scan ends (R80, R81). -/
theorem State.scanRecords_of_some {s : State} {cs : List Candidate} {c : Candidate} (h : nextRecordRead cs = some c) :
    s.freeBus.scanRecords cs = scanningOn s (.record c.offset) cs := by
  simp only [State.scanRecords, h]
  rfl

theorem State.scanRecords_of_none {s : State} {cs : List Candidate} (h : nextRecordRead cs = none) :
    s.scanRecords cs = s.finishScan cs := by
  simp only [State.scanRecords, h]

/-! ## The end of the scan -/

/-- The page after a record that starts a number of pages into the ring (R70). -/
theorem State.pageAfter_in_ring (s : State) (offset count : Nat) :
    s.pageAfter { first := s.ring.firstPage + offset, count := count } =
      if offset + count < s.ring.pageCount then s.ring.firstPage + offset + count else s.ring.firstPage := by
  simp only [State.pageAfter, Nat.add_sub_cancel_left]

/-- The journal unit after the scan, as R81 gives it. -/
theorem Journal.scanned_eq (s : State) (cs : List Candidate) :
    Journal.scanned s.ring (fun p => s.pageAfter p) cs s.journal = scannedJournal s cs := by
  simp only [Journal.scanned, scannedJournal, State.pageAfter_in_ring]
  cases newestPassing (newestFirst cs) <;> cases newestPassing ((newestFirst cs).filter Candidate.retired) <;> rfl

theorem State.updJournal_scanned (s : State) (cs : List Candidate) :
    s.updJournal (Journal.scanned s.ring (fun p => s.pageAfter p) cs) = { s with journal := scannedJournal s cs } :=
  congrArg (fun j => { s with journal := j }) (Journal.scanned_eq s cs)

/-- With no record to replay configuration entry ends with the scan (R81, R178). -/
theorem State.finishScan_nothing {s : State} {cs : List Candidate} (h : replayCandidates cs = []) :
    s.finishScan cs =
      { s with
        journal := scannedJournal s cs, setup := { s.setup with phase := .none }, port := { s.port with gate := .opn } } := by
  have hok : ¬ replayable s.setup.tables cs = false := by simp [replayable, h]
  rw [State.finishScan, if_neg hok, State.updJournal_scanned, h]
  rfl

/-- A record that cannot be applied fails the scan (R82, R83). -/
theorem State.finishScan_unapplicable {s : State} {cs : List Candidate} {c : Candidate} {items : List Entry} {e : Entry}
    (hc : c ∈ replayCandidates cs) (hv : c.verdict = .passed items) (he : e ∈ items)
    (ha : itemApplicable s.setup.tables e = false) : s.finishScan cs = s.scanFailed := by
  have hitems : c.items?.getD [] = items := by simp [Candidate.items?, hv]
  have hbad : replayable s.setup.tables cs = false := by
    rw [replayable, List.all_eq_false]
    refine ⟨c, hc, ?_⟩
    rw [hitems, List.all_eq_true]
    exact fun h => absurd (h e he) (by simp [ha])
  rw [State.finishScan, if_pos hbad]

/-- A single claim that fits is taken whole (R39). -/
theorem State.takeClaims_single {s : State} {g : Group} (hc : s.store.claims = [g]) (hs : s.queue.sealed = [])
    (hf : s.claimFits g = true) :
    s.takeClaims = { s with store := { s.store with claims := [] }, queue := { s.queue with sealed := [g] } } := by
  have hsealed : s.queue.sealed ++ [g] = [g] := by rw [hs]; rfl
  simp only [State.takeClaims, hc, State.takeClaimList, if_pos hf, State.updQueue, hsealed]
  rfl

/-- A group of at most the store's size fits a store that holds nothing (R22, R39). -/
theorem State.claimFits_of_empty {s : State} {g : Group} (ho : s.queue.openGroup = some Group.empty)
    (hs : s.queue.sealed = []) (hi : s.store.image = none) (hb : (g.entries.map fun e => e.data.length).sum ≤ 1024)
    (hn : g.entries.length ≤ 48) : s.claimFits g = true := by
  have hbytes : s.heldBytes = 0 := by
    simp [State.heldBytes, State.groups, ho, hs, hi, Group.byteTotal, Group.empty, entriesBytes]
  have hdescriptors : s.heldDescriptors = 0 := by
    simp [State.heldDescriptors, State.groups, ho, hs, hi, Group.empty]
  simp only [State.claimFits, State.freePool, State.freeDescriptors, hbytes, hdescriptors, hs, decide_eq_true_eq]
  exact ⟨hb, hn, by decide⟩

/-- The scan's results in place, and the claim of its only replay group waiting (R81, R82). -/
def State.replayClaimed (cs : List Candidate) (g : Group) (s : State) : State :=
  { s with
    journal := scannedJournal s cs, setup := { s.setup with phase := .replaying }
    store := { s.store with claims := [g] } }

/-- A single applicable record becomes the group to be replayed, and the engine stands at its first entry (R39, R51,
R82, R178). -/
theorem State.finishScan_single {s : State} {cs : List Candidate} {c : Candidate} {items : List Entry}
    (hc : replayCandidates cs = [c]) (hv : c.verdict = .passed items)
    (ha : items.all (itemApplicable s.setup.tables) = true) (hb : (items.map fun e => e.data.length).sum ≤ 1024)
    (hn : items.length ≤ 48) (ho : s.queue.openGroup = some Group.empty) (hs : s.queue.sealed = [])
    (hi : s.store.image = none) (hconf : s.setup.config = .configured) (he : s.engine.state = .idle)
    (hp : s.engine.pauseRequested = false) :
    s.finishScan cs =
      { s with
        store := { s.store with claims := [] }
        queue :=
          { s.queue with
            sealed :=
              [{ state := .applying, tag := some (headerTag c.header), seq := some (headerSeq c.header)
                 entries := items
                 placement := some { first := s.ring.firstPage + c.offset, count := headerPageCount c.header }
                 progress := 0, passes := 0, touchesSetup := items.any (entryTouchesSetup s.setup.straps) }] }
        journal :=
          { scannedJournal s cs with
            live := some { first := s.ring.firstPage + c.offset, count := headerPageCount c.header } }
        setup := { s.setup with phase := .replaying }
        engine := { s.engine with state := .phase .apply, pointer := 0, attempts := 0, remembered := none }
        down := { s.down with intReqs := s.down.intReqs ++ [.engine] } } := by
  have hitems : c.items?.getD [] = items := by simp [Candidate.items?, hv]
  have hok : ¬ replayable s.setup.tables cs = false := by simpa [replayable, hc, hitems] using ha
  have hclaimed : s.finishScan cs
      = (s.replayClaimed cs (replayGroup s.setup.straps s.ring.firstPage c)).takeClaims.startGroup := by
    rw [State.finishScan, if_neg hok, State.updJournal_scanned, hc]
    rfl
  have hentries : (replayGroup s.setup.straps s.ring.firstPage c).entries = items := hitems
  have hfits := State.claimFits_of_empty (g := replayGroup s.setup.straps s.ring.firstPage c)
    (s := s.replayClaimed cs (replayGroup s.setup.straps s.ring.firstPage c)) ho hs hi (by rwa [hentries])
    (by rwa [hentries])
  have htaken := State.takeClaims_single
    (s := s.replayClaimed cs (replayGroup s.setup.straps s.ring.firstPage c)) rfl hs hfits
  rw [hclaimed, htaken, State.startGroup_of_replay (g := replayGroup s.setup.straps s.ring.firstPage c) (gs := [])]
  · simp only [replayGroup, hitems]
    rfl
  · exact he
  · exact hconf
  · exact hp
  · rfl
  · rfl

/-- Settles O42: the next read of the scan, its end, and the replay of a single record. -/
theorem scanReadsAreJudged : Obligations.ScanReadsAreJudged := by
  refine ⟨fun s bs o n cs k h hl hs => ?_, fun s bs o cs k h hl hs => ?_⟩
  · intro fits found
    have hheader : s.freeBus.scanHeader o cs bs =
        if o + 1 < s.ring.pageCount then scanningOn s (.headers (o + 1)) found else s.freeBus.scanRecords found := rfl
    rw [exec_scanHeaderReadDone h hl hs, hheader]
    refine ⟨fun ho => ?_, fun c ho hn => ?_, fun ho hn hr => ?_⟩
    · rw [if_pos ho]
    · rw [if_neg (Nat.not_lt.2 ho), State.scanRecords_of_some hn]
    · rw [if_neg (Nat.not_lt.2 ho), State.scanRecords_of_none hn, State.finishScan_nothing hr]
      rfl
  · intro judged
    have hrecord : s.freeBus.scanRecord o cs bs = s.freeBus.scanRecords judged := rfl
    rw [exec_scanRecordReadDone h hl hs, hrecord]
    refine ⟨fun c hn => ?_, fun hn hr => ?_, fun c items e hn hc hv he ha => ?_,
      fun c items hn hc hv ha hb hlen ho hsealed hi hconf he hp => ?_⟩
    · rw [State.scanRecords_of_some hn]
    · rw [State.scanRecords_of_none hn, State.finishScan_nothing hr]
      rfl
    · rw [State.scanRecords_of_none hn, State.finishScan_unapplicable (s := s.freeBus) hc hv he ha]
      rfl
    · rw [State.scanRecords_of_none hn,
        State.finishScan_single (s := s.freeBus) hc hv ha hb hlen ho hsealed hi hconf he hp]
      rfl

/-! ## A reload -/

/-- The swap, the end of configuration entry apart (R18, R84, R181). -/
theorem State.swap_eq (bs : List Byte) (s : State) :
    s.swap bs =
      entryOver .reloading
        { s with
          setup :=
            { s.setup with
              config := .configured, reject := .none, tables := tablesOf bs, reload := .none, holding := none
              stale := false }
          journal :=
            { s.journal with
              head :=
                if s.setup.tables.ringPlace = (tablesOf bs).ringPlace then s.journal.head
                else ((tablesOf bs).ring.map PageRange.firstPage).getD s.journal.head }
          port :=
            { s.port with
              pointers :=
                { p0 := swappedPointer s.setup.tables (tablesOf bs) s.port.pointers 0
                  p1 := swappedPointer s.setup.tables (tablesOf bs) s.port.pointers 1
                  p2 := swappedPointer s.setup.tables (tablesOf bs) s.port.pointers 2
                  p3 := swappedPointer s.setup.tables (tablesOf bs) s.port.pointers 3 } }
          down :=
            { s.down with states := (tablesOf bs).devices.map (swappedState s.setup.tables s.down.states) } } := rfl

/-- Settles O43: the setup unit's read request, and the swap of the tables. -/
theorem reloadIsReadAndSwapped : Obligations.ReloadIsReadAndSwapped := by
  refine fun s => ⟨fun hr hq he => ?_, fun bs hr hh ho hq hf he hslots => ?_⟩
  · have hdue : s.reloadDue = true := decide_eq_true ⟨hr, hq, he⟩
    change execReloadReadRequest s = _
    rw [execReloadReadRequest, if_pos hdue]
    rfl
  · intro old new place pointer
    have hbetween : s.betweenFrames = true := decide_eq_true ⟨hf, he⟩
    have hdue : s.swapDue = true := by
      simp [State.swapDue, hr, hh, ho, hq, hbetween, hslots]
    have hswap : s.takeSwap = s.swap bs := by simp only [State.takeSwap, hh]
    change execSetupSwap s = _
    rw [execSetupSwap, if_pos hdue, hswap, State.swap_eq, entryOver_eq]
    rfl

end Sys2Proof.Machine
end

section
/-! PROOF. Bytes of proxy reads and of relays (chapters 5 and 8; O44 to O46). -/

namespace Sys2Proof.Machine

/-! ## Holds -/

theorem State.releaseHold_eq {s : State} {f : Frame} (hf : s.port.frame = some f) :
    s.releaseHold =
      { s with port := { s.port with hold := .none, holdTimer := none, idleTimer := some f.idleLimit } } := by
  simp [State.releaseHold, State.updPort, hf]

theorem State.decideHold_b {s : State} {f : Frame} (hf : s.port.frame = some f) :
    s.decideHold .b =
      { s with port := { s.port with hold := .b, holdTimer := none, idleTimer := some f.idleLimit } } := by
  simp [State.decideHold, State.updPort, hf]

/-! ## Headers of proxy reads -/

theorem State.readUnattended_iff (s : State) :
    s.readUnattended = true ↔ s.read.phase = .dead ∨ s.read.phase = .filling ∨ s.down.ended = true := by
  rw [State.readUnattended, Bool.or_eq_true, decide_eq_true_eq, or_comm, or_assoc]

/-- A served READ is attended while it opens or streams (R94, R95). -/
theorem State.readUnattended_of_served {s : State} {f : Frame} (h : served s .read f)
    (hp : s.read.phase = .opening ∨ s.read.phase = .streaming) : s.readUnattended = false := by
  obtain ⟨-, -, he, -⟩ := h
  rw [Bool.eq_false_iff, Ne, State.readUnattended_iff]
  rintro (hd | hf | hended)
  · exact absurd (hd ▸ hp) (by simp)
  · exact absurd (hf ▸ hp) (by simp)
  · rw [he] at hended
    cases hended

theorem onSegment_of_served {s : State} {r : Requester} {f : Frame} {a : Activity} (h : served s r f)
    (ha : s.down.activity = a) : onSegment s r a := by
  obtain ⟨hd, hg, -, hc, hp, -⟩ := h
  exact ⟨hd, hg, hc, hp, ha⟩

/-- The end of a random-read header that the controller attends (R88). -/
theorem exec_readHeaderDone {s t : State} {f : Frame} {a : DevAddr} {w : Word} {ack : Bool} (h : served s .read f)
    (hp : s.read.phase = .opening ∨ s.read.phase = .streaming) (ha : s.down.activity = .header a w)
    (ht : s.headerDone ack = .next t) : exec (.readHeaderDone ack) s = .next t := by
  obtain ⟨hd, hg, hc, hpoll, hact⟩ := onSegment_of_served h ha
  change execReadHeaderDone ack s = _
  refine onEvent_of_next hd ?_
  simp only [State.readActivity_eq hg hc hpoll hact, State.readUnattended_of_served h hp, Bool.false_eq_true, if_false,
    ht]

/-- The end of a random-read header that nobody attends (R94, R97). -/
theorem exec_readHeaderDone_unattended {s : State} {a : DevAddr} {w : Word} (ack : Bool)
    (h : onSegment s .read (.header a w)) (hu : s.readUnattended = true) :
    exec (.readHeaderDone ack) s = .next (s.headerAbandoned ack) := by
  obtain ⟨hd, hg, hc, hpoll, hact⟩ := h
  change execReadHeaderDone ack s = _
  refine onEvent_of_next hd ?_
  simp only [State.readActivity_eq hg hc hpoll hact, hu, if_true]

/-- Settles O44: the header answers the device byte, takes the stream up again, or ends in a frame nobody attends. -/
theorem readHeaderOpensTheStream : Obligations.ReadHeaderOpensTheStream := by
  refine fun s a w => ⟨fun f h hp hh ha => ?_, fun f h hp ha => ?_, fun h hu => ?_⟩
  · have hf : s.port.frame = some f := h.2.2.2.2.2
    have hhold : ¬ s.port.hold ≠ .a := not_not_intro hh
    have hopen : ∀ ack, s.headerDone ack =
        if ack then
          .next ((((s.releaseHold.answerWith true).updRead fun r => { r with phase := .streaming }).decideHold .b).setActivity
            .byte)
        else .next (s.refuseRead.beginClosing .stop false) := fun ack => by
      simp only [State.headerDone, hp, if_neg hhold]
    refine ⟨exec_readHeaderDone h (.inl hp) ha ?_, exec_readHeaderDone h (.inl hp) ha ?_⟩
    · rw [hopen, if_pos rfl,
        State.decideHold_b (s := (s.releaseHold.answerWith true).updRead fun r => { r with phase := .streaming }) hf]
      rfl
    · rw [hopen, if_neg nofun, State.refuseRead_eq hf]
      rfl
  · refine ⟨exec_readHeaderDone h (.inr hp) ha ?_, exec_readHeaderDone h (.inr hp) ha ?_⟩
    · simp only [State.headerDone, hp, if_true]
      rfl
    · simp only [State.headerDone, hp, Bool.false_eq_true, if_false]
      rfl
  · have hun := (State.readUnattended_iff s).2 hu
    exact ⟨exec_readHeaderDone_unattended true h hun, exec_readHeaderDone_unattended false h hun⟩

/-! ## Bytes of proxy reads -/

theorem State.statusRecord_length (s : State) : s.statusRecord.length = 32 := rfl

/-- A byte awaited in a stream is chosen and passed (R89, R91). -/
theorem exec_memoryByteHeld {s : State} {f : Frame} (b : Byte) (h : served s .read f) (hp : s.read.phase = .streaming)
    (hh : s.port.hold = .b) (ha : s.down.activity = .byte) : exec (.memoryByteHeld b) s = .next (s.passByte b) := by
  obtain ⟨hd, hg, hc, hpoll, hact⟩ := onSegment_of_served h ha
  change execMemoryByteHeld b s = _
  refine onEvent_of_next hd ?_
  simp only [State.readActivity_eq hg hc hpoll hact, State.readUnattended_of_served h (.inr hp), Bool.false_eq_true,
    if_false, hp, hh, and_self, if_true]

theorem State.readsControl_iff (s : State) :
    s.readsControl = true ↔
      s.read.dev = 0 ∧ windowBase s.setup.straps ≤ s.readAddress ∧ s.readAddress < windowBase s.setup.straps + 128 := by
  rw [State.readsControl, Bool.and_eq_true, decide_eq_true_eq, inArea, decide_eq_true_eq]
  rfl

/-- A byte of the control window comes from the snapshot, taken here if it is the frame's first (R85, R91, R92). -/
theorem State.passByte_control {s : State} {f : Frame} (b : Byte) (hf : s.port.frame = some f) (hc : s.readsControl = true) :
    s.passByte b =
      { s with
        read := { s.read with snapshot := some (s.read.snapshot.getD s.statusRecord) }
        port :=
          { s.port with
            hold := .none, holdTimer := none, idleTimer := some f.idleLimit
            sent := some ((s.read.snapshot.getD s.statusRecord).getD (s.readAddress - windowBase s.setup.straps) 0) }
        down := { s.down with activity := .held } } := by
  have hframe : s.takeSnapshot.port.frame = some f := hf
  simp only [State.passByte, State.chooseByte, hc, if_true, State.releaseHold_eq hframe]
  rfl

/-- Another byte is sent as it is chosen (R89, R91). -/
theorem State.passByte_other {s : State} {f : Frame} (b : Byte) (hf : s.port.frame = some f) (hc : ¬ s.readsControl = true) :
    s.passByte b =
      { s with
        port :=
          { s.port with
            hold := .none, holdTimer := none, idleTimer := some f.idleLimit
            sent := some (if s.configured then (s.stagedByte s.read.dev s.readAddress).getD b else b) }
        down := { s.down with activity := .held } } := by
  simp only [State.passByte, State.chooseByte, if_neg hc, State.releaseHold_eq hf]
  rfl

/-- Settles O45: the byte of the window, of the overlay or of the memory, or a late one discarded. -/
theorem byteSentInARead : Obligations.ByteSentInARead := by
  intro s f b d a window sent
  refine ⟨fun h hp hh ha => ?_, fun h hu => ?_⟩
  · have hf : s.port.frame = some f := h.2.2.2.2.2
    have hcontrol : d = 0 → window ≤ a → a < window + 128 → s.readsControl = true :=
      fun hd h1 h2 => (State.readsControl_iff s).2 ⟨hd, h1, h2⟩
    have hother : d ≠ 0 ∨ a < window ∨ window + 128 ≤ a → ¬ s.readsControl = true := fun h hc => by
      obtain ⟨hd, h1, h2⟩ := (State.readsControl_iff s).1 hc
      rcases h with h | h | h
      · exact h hd
      · exact Nat.not_le.2 h h1
      · exact Nat.not_le.2 h2 h
    have hkept : ∀ snap, s.read.snapshot = some snap → ({ s.read with snapshot := some snap } : ReadService) = s.read :=
      fun snap hs => by rw [← hs]
    have hpast : ∀ snap : List Byte, window + 32 ≤ a → snap.length = 32 →
        snap.getD (s.readAddress - windowBase s.setup.straps) 0 = 0 := fun snap h1 hl => by
      have hend : snap.length ≤ s.readAddress - windowBase s.setup.straps := by
        rw [hl]
        exact Nat.le_sub_of_add_le' h1
      rw [List.getD_eq_getElem?_getD, List.getElem?_eq_none hend, Option.getD_none]
    rw [exec_memoryByteHeld b h hp hh ha]
    refine ⟨fun hd h1 h2 hs => ?_, fun snap hd h1 h2 hs => ?_, fun snap hd h1 h2 hs hl => ?_, fun hd h1 h2 hs => ?_,
      fun v hw hconf hv => ?_, fun hw hv => ?_⟩
    · rw [State.passByte_control b hf (hcontrol hd h1 (by omega)), hs]
      rfl
    · rw [State.passByte_control b hf (hcontrol hd h1 (by omega)), hs, Option.getD_some, hkept snap hs]
      rfl
    · rw [State.passByte_control b hf (hcontrol hd (by omega) h2), hs, Option.getD_some, hkept snap hs,
        hpast snap h1 hl]
    · rw [State.passByte_control b hf (hcontrol hd (by omega) h2), hs, Option.getD_none,
        hpast _ h1 s.statusRecord_length]
    · have hstaged : s.stagedByte s.read.dev s.readAddress = some v := hv
      rw [State.passByte_other b hf (hother hw), hstaged]
      simp only [State.configured, hconf, decide_true, if_true, Option.getD_some]
      rfl
    · have hb : (if s.configured then (s.stagedByte s.read.dev s.readAddress).getD b else b) = b := by
        rcases hv with hu | hn
        · simp [State.configured, hu]
        · rw [show s.stagedByte s.read.dev s.readAddress = none from hn]
          simp
      rw [State.passByte_other b hf (hother hw), hb]
  · obtain ⟨hd, hg, hc, hpoll, hact⟩ := h
    have hun : s.readUnattended = true := (State.readUnattended_iff s).2 (or_left_comm.1 hu)
    change execMemoryByteHeld b s = _
    refine onEvent_of_next hd ?_
    simp only [State.readActivity_eq hg hc hpoll hact, hun, if_true]
    rfl

/-! ## Answers and bytes of relays -/

/-- The memory's answer in a relay that is served (R142, R143). -/
theorem exec_relayAnswer {s t : State} {f : Frame} {r : Relay} {ack : Bool} (h : served s .relay f)
    (hh : s.port.hold = .a) (hr : s.relay = some r) (ht : s.relayAnswered r ack = .next t) :
    exec (.relayAnswer ack) s = .next t := by
  obtain ⟨hd, hg, he, hc, hp, hf⟩ := h
  have hserving : s.serving .relay = true := decide_eq_true ⟨hg, he⟩
  change execRelayAnswer ack s = _
  refine onEvent_of_next hd ?_
  simp only [State.windingUp_none he, hf, hr, hserving, hc, hh, and_self, if_true, ht]

theorem State.ackData_eq {s : State} {f : Frame} (hf : s.port.frame = some f) :
    s.ackData = { s with port := { s.port with frame := some { f with acked := f.acked + 1 }, answer := some true } } := by
  simp [State.ackData, State.answerWith, State.updFrame, State.updPort, hf]

/-- The byte held in a relay acknowledged: it counts, and the home relay's pointer advances (R123, R143). -/
theorem State.relayByteAcked_eq {s : State} {f : Frame} (r : Relay) (hf : s.port.frame = some f) :
    s.relayByteAcked r =
      { s with
        relay := some { r with stage := .opn, home := r.home.map fun h => { h with byteRelayed := true } }
        port :=
          { s.port with
            hold := .none, holdTimer := none, idleTimer := some f.idleLimit, answer := some true
            frame := some { f with acked := f.acked + 1 }
            pointers :=
              if r.home.isSome then s.port.pointers.set 0 (pointerAfterWrite s 0) else s.port.pointers } } := by
  have hframe : s.releaseHold.port.frame = some f := hf
  rw [State.relayByteAcked, State.ackData_eq hframe, State.releaseHold_eq hf, State.advanceWrite_eq]
  split <;> rfl

/-- Settles O46: the answers and bytes of a relay served, and those discarded in one being wound up. -/
theorem relayPassesAnswersAndBytes : Obligations.RelayPassesAnswersAndBytes := by
  intro s f b ack released
  refine ⟨fun r h hh hr => ?_, fun how home h he => ?_, fun r h hh hr hs => ?_, fun how home h he => ?_⟩
  · have hf : s.port.frame = some f := h.2.2.2.2.2
    refine ⟨fun hs hdir => exec_relayAnswer h hh hr ?_, fun hs hdir => exec_relayAnswer h hh hr ?_,
      fun hs => exec_relayAnswer h hh hr ?_, fun hs hhome => exec_relayAnswer h hh hr ?_,
      fun k hs hhome => exec_relayAnswer h hh hr ?_, fun hs => exec_relayAnswer h hh hr ?_⟩
    · simp only [State.relayAnswered, hs, if_true, State.relayDeviceAcked, hdir, State.releaseHold_eq hf]
      rfl
    · have hframe : (s.releaseHold.answerWith true).port.frame = some f := hf
      simp only [State.relayAnswered, hs, if_true, State.relayDeviceAcked, hdir, State.decideHold_b hframe]
      rfl
    · simp only [State.relayAnswered, hs, Bool.false_eq_true, if_false, State.relayDeviceRefused, State.refuseHeld_eq hf]
      rfl
    · simp only [State.relayAnswered, hs, if_true, State.relayByteAcked_eq r hf, hhome]
      rfl
    · simp only [State.relayAnswered, hs, if_true, State.relayByteAcked_eq r hf, hhome]
      rfl
    · have hframe : s.releaseHold.port.frame = some f := hf
      have hrefused : s.relayByteRefused r = State.updRelay (fun _ => some { r with stage := .opn, naked := true })
          { s with port := dataRefused { s with port := released } f } := by
        rw [State.relayByteRefused, State.refuseData_eq hframe, State.releaseHold_eq hf]
      simp only [State.relayAnswered, hs, Bool.false_eq_true, if_false, hrefused]
      rfl
  · obtain ⟨hd, hg, hc, hp, ha⟩ := h
    change execRelayAnswer ack s = _
    refine onEvent_of_next hd ?_
    simp only [State.windingUp_eq hg he hc ha]
    rfl
  · obtain ⟨hd, hg, he, hc, hp, hf⟩ := h
    have hserving : s.serving .relay = true := decide_eq_true ⟨hg, he⟩
    change execRelayReadByte b s = _
    refine onEvent_of_next hd ?_
    simp only [State.windingUp_none he, hf, hr, hs, hserving, hc, hh, and_self, if_true]
    rw [State.releaseHold_eq hf]
    rfl
  · obtain ⟨hd, hg, hc, hp, ha⟩ := h
    change execRelayReadByte b s = _
    refine onEvent_of_next hd ?_
    simp only [State.windingUp_eq hg he hc ha]
    rfl

end Sys2Proof.Machine
end

section
/-! PROOF. The arbiter's choice, the grant check, and the stuck bus (sections 9.2, 9.3 and 9.6; O47 to O50). -/

namespace Sys2Proof.Machine

/-! ## The choice -/

/-- Settles O47: the queue the grant goes to, by the queues and the fairness counter. -/
theorem arbiterChoice : Obligations.ArbiterChoice := by
  refine fun s u i us is raced => ⟨fun hu hi => ?_, fun hu hi => ?_, fun hu hi => ?_, fun hu hi hf => ?_,
    fun hu hi hf => ?_⟩
  · simp only [State.choose, hu, hi]
  · simp only [State.choose, State.updDown, hu, hi]
  · simp only [State.choose, State.updDown, hu, hi]
  · have hmax : Config.fairnessMax ≤ s.down.fairness := hf
    simp only [State.choose, State.updDown, hu, hi, if_pos hmax]
  · have hmax : ¬ Config.fairnessMax ≤ s.down.fairness := Nat.not_le.2 hf
    refine ⟨?_, if Config.requestFirst s.freeIndex then s.down.fairness + 1 else s.down.fairness, s.freeIndex + 1, ?_, ?_⟩
    · simp only [State.choose, State.updDown, hu, hi, if_neg hmax, Bool.false_eq_true, if_false]
    · split
      · exact .inr rfl
      · exact .inl rfl
    · simp only [State.choose, State.updDown, hu, hi, if_neg hmax, if_true]

/-! ## FAULTED devices at the grant -/

/-- A grant whose device is FAULTED fails (R154). -/
theorem State.openGrant_faulted {s : State} {r : Requester} {d : Nat} (hr : r ≠ .homePoll)
    (ht : (s.granted r).target r = some d) (hd : (s.granted r).devState d = .faulted) :
    s.openGrant r = (s.granted r).failOp r .deviceFaulted := by
  cases r with
  | homePoll => exact absurd rfl hr
  | posted _ | read | relay | engine | setupRead | scanRead => simp only [State.openGrant, ht, hd]

/-- A setup read granted to no load attempt changes nothing at the setup unit (R20). -/
theorem State.granted_setupRead {s : State} (ha : s.setup.attempt = .none) : s.granted .setupRead = s := by
  have hsetup : ({ s.setup with attempt := if s.setup.attempt = .requested then .granted else s.setup.attempt } : Setup)
      = s.setup := by
    rw [ha, if_neg nofun, ← ha]
  exact congrArg (fun st => { s with setup := st }) hsetup

/-- Settles O48: the engine halts, the posted write fails, the reload ends and the scan falls back. -/
theorem faultedDeviceFailsAtTheGrant : Obligations.FaultedDeviceFailsAtTheGrant := by
  refine fun s => ⟨fun ph hd he => ?_, fun i d rs hi hd hh => ?_, fun hd hc hs ha => ?_, fun hd => ?_⟩
  · rw [State.openGrant_faulted (r := .engine) (d := s.stepDevice) nofun rfl hd]
    exact State.halt_eq (s := s.freeBus) .deviceFaulted he
  · have hgranted : s.granted (.posted i) = { s with forward := s.forward.set i (.performing d rs) } := by
      simp only [State.granted, hi]
      rfl
    have hslot : (s.granted (.posted i)).forward.get i = .performing d rs := by
      rw [hgranted]
      exact ForwardQueue.get_set _ _ _
    rw [State.openGrant_faulted (r := (.posted i)) (d := d) nofun, State.failOp_posted _ hslot, hgranted]
    · simp only [ForwardQueue.set_set]
    · rw [hgranted]
      exact hh
    · simp only [State.target, hslot]
      rfl
    · rw [hgranted]
      exact hd
  · rw [State.openGrant_faulted (r := .setupRead) (d := 0) nofun rfl hd, State.granted_setupRead ha, State.failOp,
      State.loadFailed_configured (s := s.freeBus) _ hc hs, State.rejectReload_eq (s := s.freeBus) _ hs]
    rfl
  · rw [State.openGrant_faulted (r := .scanRead) (d := s.ring.dev) nofun rfl hd]
    rfl

end Sys2Proof.Machine
end

section
/-! PROOF. The stuck bus (section 9.6; O49 and O50). -/

namespace Sys2Proof.Machine

/-! ## Bus clears -/

/-- A detection before the fourth begins a bus clear (R157). -/
theorem exec_stuckBusDetected_clears {s : State} {r : Requester} (hd : s.nothingDue) (hg : s.down.grant = some r)
    (hc : s.down.clearing = false) (hb : s.drivesBus = true) (hn : s.down.detections < 3) :
    exec .stuckBusDetected s = .next s.beginClear := by
  have hmax : s.down.detections < Config.detectionMax := hn
  change execStuckBusDetected s = _
  refine onEvent_of_next hd ?_
  simp only [hg, hc, hb, and_self, if_true, if_pos hmax]

/-- A bus clear that succeeds hands the bus back to its operation (R159). -/
theorem exec_busClear_succeeds {s : State} {r : Requester} (hd : s.nothingDue) (hg : s.down.grant = some r)
    (hc : s.down.clearing = true) :
    exec (.busClearAttemptEnd true) s = .next (s.conclude (s.countClear.resumeAfterClear r)) := by
  change execBusClearAttemptEnd true s = _
  refine onEvent_of_next hd ?_
  simp only [hg, hc, if_true]

/-- The third failed attempt is the report, and an earlier one is followed by the next (R158, R160). -/
theorem exec_busClear_fails {s : State} {r : Requester} (hd : s.nothingDue) (hg : s.down.grant = some r)
    (hc : s.down.clearing = true) :
    exec (.busClearAttemptEnd false) s =
      if s.down.clears + 1 < 3 then .next s.countClear else .next (s.conclude (s.countClear.reportStuck r)) := by
  have hbody : (if s.down.clears + 1 < Config.clearMax then (.next s.countClear : Result)
      else .next (s.conclude (s.countClear.reportStuck r)))
      = if s.down.clears + 1 < 3 then .next s.countClear else .next (s.conclude (s.countClear.reportStuck r)) := rfl
  change execBusClearAttemptEnd false s = _
  by_cases hn : s.down.clears + 1 < 3
  · rw [if_pos hn] at hbody ⊢
    refine onEvent_of_next hd ?_
    simp only [hg, hc, if_true, Bool.false_eq_true, if_false, hbody]
  · rw [if_neg hn] at hbody ⊢
    refine onEvent_of_next hd ?_
    simp only [hg, hc, if_true, Bool.false_eq_true, if_false, hbody]

/-! ## What a cleared bus goes on with -/

/-- The bus clear over, within the grant (R159). -/
def State.busCleared (s : State) : State :=
  { s with down := { s.down with clearing := false, clears := s.down.clears + 1 } }

theorem State.resume_poll {s : State} (r : Requester) {p : Poll} (hp : s.down.poll = some p) :
    s.countClear.resumeAfterClear r =
      { s with down := { s.busCleared.down with poll := some { p with attempt := true } } } := by
  have hpoll : s.countClear.down.poll = some p := hp
  simp only [State.resumeAfterClear, hpoll]
  rfl

theorem State.resume_ended {s : State} (r : Requester) (hp : s.down.poll = none) (he : s.down.ended = true) :
    s.countClear.resumeAfterClear r = s.busCleared.freeBus.attemptPolled := by
  have hpoll : s.countClear.down.poll = none := hp
  have hended : s.countClear.down.ended = true := he
  simp only [State.resumeAfterClear, hpoll, hended, if_true]
  rfl

/-- With no poll to go on with, the frame of a posted write or of a read of the part's own is sent again whole (R159). -/
theorem State.resume_frame {s : State} {r : Requester} (hp : s.down.poll = none) (he : s.down.ended = false)
    (hr : r ≠ .read ∧ r ≠ .relay ∧ r ≠ .homePoll) :
    s.countClear.resumeAfterClear r = s.busCleared.sendFrame r := by
  have hpoll : s.countClear.down.poll = none := hp
  have hended : s.countClear.down.ended = false := he
  obtain ⟨hread, hrelay, hhome⟩ := hr
  cases r with
  | read => exact absurd rfl hread
  | relay => exact absurd rfl hrelay
  | homePoll => exact absurd rfl hhome
  | posted _ | engine | setupRead | scanRead =>
    simp only [State.resumeAfterClear, hpoll, hended, Bool.false_eq_true, if_false]
    rfl

/-- A READ whose device byte or byte is awaited goes on with its header, another with nothing (R96). -/
theorem State.resume_read {s : State} (hp : s.down.poll = none) (he : s.down.ended = false) :
    s.countClear.resumeAfterClear .read =
      s.busCleared.setActivity
        (if s.read.phase = .opening ∨ s.read.phase = .streaming then s.readHeader else .none) := by
  have hpoll : s.countClear.down.poll = none := hp
  have hended : s.countClear.down.ended = false := he
  have hread : s.countClear.read.phase = s.read.phase := rfl
  simp only [State.resumeAfterClear, hpoll, hended, Bool.false_eq_true, if_false, hread]
  cases s.read.phase <;> rfl

theorem State.resume_relay {s : State} (hp : s.down.poll = none) (he : s.down.ended = false) :
    s.countClear.resumeAfterClear .relay = s.busCleared.freeBus.relayLost.dropRelay := by
  have hpoll : s.countClear.down.poll = none := hp
  have hended : s.countClear.down.ended = false := he
  simp only [State.resumeAfterClear, hpoll, hended, Bool.false_eq_true, if_false]
  rfl

/-! ## A relay that has lost its bus -/

/-- A byte held at A is refused, one awaited at B begins the filling, and a frame begun by a passed-on repeated start
stays live (R145). -/
theorem State.relayLost_eq {s : State} {f : Frame} (hf : s.port.frame = some f) :
    (f.cls = .relay → s.port.hold = .a → s.relayLost = { s with port := heldRefused s f })
      ∧ (f.cls = .relay → s.port.hold = .b →
        s.relayLost =
          { s with
            port :=
              { s.port with
                frame := some { f with filling := true }
                hold := .none, holdTimer := none, idleTimer := some f.idleLimit, sent := some 0xFF } })
      ∧ (f.cls ≠ .relay → s.relayLost = s) := by
  refine ⟨fun hcls hh => ?_, fun hcls hh => ?_, fun hcls => ?_⟩
  · simp only [State.relayLost, hf, hcls, hh, if_true]
    exact State.refuseHeld_eq hf
  · have hb : ¬ s.port.hold = .a := by rw [hh]; nofun
    simp only [State.relayLost, hf, if_pos hcls, if_neg hb, if_pos hh]
    rw [State.releaseHold_eq hf]
    simp [State.updFrame, State.updPort, State.sendUp, hf]
  · simp only [State.relayLost, hf, if_neg hcls]

/-- Settles O49: detections, attempts of the bus clear, and what the operation goes on with. -/
theorem stuckBusIsCleared : Obligations.StuckBusIsCleared := by
  intro s r hreload hswap hg cleared
  have hd : s.nothingDue := ⟨hreload, hswap⟩
  have hclear := fun hc => exec_busClear_succeeds hd hg hc
  have hkept : ∀ {t : State}, t.down.grant = s.down.grant → s.conclude t = t :=
    fun h => State.conclude_settled s (.inl (by rw [h, hg]; nofun))
  have hquiet : ∀ {t : State}, s.down.upFifo = [] → s.down.intReqs = [] → t.down.upFifo = s.down.upFifo →
      t.down.intReqs = s.down.intReqs → s.conclude t = t :=
    fun hu hi h1 h2 => State.conclude_settled s (.inr ⟨h1.trans hu, h2.trans hi⟩)
  refine ⟨fun d how home a w ha => ?_, fun hc hb hn => ?_, fun hc hn => ?_, fun p hc hp => ?_, fun hc hp hr he => ?_,
    fun i d rs hc hp hr he hi => ?_, fun hc hp hr he hph => ?_,
    fun f hc hp hr he hu hi hf hcls => ⟨fun hh => ?_, fun hh => ?_⟩, fun f hc hp hr he hu hi hf hcls => ?_,
    fun hc hp hr he hph => ?_, fun hc hp he hu hi hatt => ?_, fun hc hp he hu hi hatt hconf hst => ?_⟩
  · have hdrives : s.down.activity.drives = true := by
      rcases ha with h | h | h | h <;> rw [h] <;> rfl
    simp [State.drivesBus, hdrives]
  · exact exec_stuckBusDetected_clears hd hg hc hb hn
  · rw [exec_busClear_fails hd hg hc, if_pos hn]
    rfl
  · rw [hclear hc, State.resume_poll r hp, hkept] <;> rfl
  · subst hr
    rw [hclear hc, State.resume_frame hp he (by simp), hkept] <;> rfl
  · subst hr
    have hslot : s.busCleared.forward.get i = .performing d rs := hi
    rw [hclear hc, State.resume_frame hp he (by simp), hkept]
    · simp only [State.sendFrame, hslot]
      rfl
    · rfl
  · subst hr
    rw [hclear hc, State.resume_read hp he, if_pos hph, hkept] <;> rfl
  · subst hr
    obtain ⟨hlostA, -, -⟩ := State.relayLost_eq (s := s.busCleared.freeBus) hf
    rw [hclear hc, State.resume_relay hp he, hlostA hcls hh, hquiet hu hi] <;> rfl
  · subst hr
    obtain ⟨-, hlostB, -⟩ := State.relayLost_eq (s := s.busCleared.freeBus) hf
    rw [hclear hc, State.resume_relay hp he, hlostB hcls hh, hquiet hu hi] <;> rfl
  · subst hr
    obtain ⟨-, -, hlive⟩ := State.relayLost_eq (s := s.busCleared.freeBus) hf
    rw [hclear hc, State.resume_relay hp he, hlive hcls, hquiet hu hi] <;> rfl
  · subst hr
    have hnot : ¬ (s.read.phase = .opening ∨ s.read.phase = .streaming) := by
      rcases hph with h | h | h <;> simp [h]
    rw [hclear hc, State.resume_read hp he, if_neg hnot, hkept] <;> rfl
  · have hattempt : ¬ s.busCleared.freeBus.setup.attempt = .awaitPoll := hatt
    rw [hclear hc, State.resume_ended r hp he, State.attemptPolled, if_neg hattempt, hquiet hu hi] <;> rfl
  · have hattempt : s.busCleared.freeBus.setup.attempt = .awaitPoll := hatt
    rw [hclear hc, State.resume_ended r hp he, State.attemptPolled, if_pos hattempt]
    have hqueue : (s.busCleared.freeBus.updSetup fun st => { st with attempt := .requested }).requestLoad.down.intReqs
        = [.setupRead] := congrArg (· ++ [Requester.setupRead]) hi
    have hready : (s.busCleared.freeBus.updSetup fun st => { st with attempt := .requested }).requestLoad.devState 0
        = .ready := congrArg (fun l => l.getD 0 .ready) hst
    rw [State.conclude_setupRead_ready s
      (s := (s.busCleared.freeBus.updSetup fun st => { st with attempt := .requested }).requestLoad) rfl hu hqueue hready]
    have hnone : (busFreed cleared).intReqs = [] := hi
    rw [← hnone]
    rfl

/-! ## BUS_STUCK -/

/-- The bus reported stuck, before the operation fails (R160). -/
def State.stuck (clears : Nat) (s : State) : State :=
  { s with
    down :=
      { s.down with
        states := s.down.states.map fun _ => .faulted, clears := clears, poll := none, clearing := false
        activity := .none } }

/-- The fourth detection, and the third failed attempt of a bus clear, are the report of BUS_STUCK (R157, R160). -/
theorem exec_reportsStuck {s : State} {r : Requester} {c : Instr} (hd : s.nothingDue) (hg : s.down.grant = some r)
    (h : (c = .stuckBusDetected ∧ s.down.clearing = false ∧ s.drivesBus = true ∧ 3 ≤ s.down.detections)
      ∨ (c = .busClearAttemptEnd false ∧ s.down.clearing = true ∧ s.down.clears + 1 = 3)) :
    exec c s = .next (s.conclude
      ((s.stuck (if c = .stuckBusDetected then s.down.clears else 3)).failOp r .busStuck)) := by
  rcases h with ⟨rfl, hc, hb, hn⟩ | ⟨rfl, hc, hn⟩
  · have hmax : ¬ s.down.detections < Config.detectionMax := Nat.not_lt.2 hn
    have hexec : exec .stuckBusDetected s = .next (s.conclude (s.reportStuck r)) := by
      change execStuckBusDetected s = _
      refine onEvent_of_next hd ?_
      simp only [hg, hc, hb, and_self, if_true, if_neg hmax]
    rw [hexec, if_pos rfl]
    rfl
  · have hmax : ¬ s.down.clears + 1 < 3 := by omega
    rw [exec_busClear_fails hd hg hc, if_neg hmax, if_neg nofun, ← hn]
    rfl

theorem State.readFailed_streaming {s : State} {f : Frame} (he : s.down.ended = false) (hp : s.read.phase = .streaming)
    (hf : s.port.frame = some f) (hh : s.port.hold = .b) :
    s.readFailed =
      { s with
        port := { s.port with hold := .none, holdTimer := none, idleTimer := some f.idleLimit, sent := some 0xFF }
        read := { s.read with phase := .filling }
        down := { s.down with poll := none, activity := .none } } := by
  have hhold : (s.endPoll.setActivity .none).port.hold = .b := hh
  have hframe : ((s.endPoll.setActivity .none).updRead fun r => { r with phase := .filling }).port.frame = some f := hf
  rw [State.readFailed, if_neg (by simp [he])]
  simp only [hp]
  rw [State.fillRead, if_pos hhold, State.releaseHold_eq hframe]
  rfl

/-- A relay reported stuck keeps its grant, its upstream side lost (R160; log 11). -/
theorem State.relayFailed_stuck {s : State} {q : Relay} (he : s.down.ended = false) (hq : s.relay = some q) {p : Port}
    (hl : s.endPoll.relayLost = { s.endPoll with port := p }) :
    s.relayFailed .busStuck =
      { s with
        port := p, relay := some { q with stage := .stuck, opened := false }, down := { s.down with poll := none } } := by
  have hrelay : ({ s.endPoll with port := p } : State).relay = some q := hq
  rw [State.relayFailed, if_neg (by simp [he])]
  simp only [hl, State.updRelay, hrelay]
  rfl

theorem State.relayFailed_ended {s : State} (c : OpFailure) (he : s.down.ended = true) (ha : s.setup.attempt ≠ .awaitPoll) :
    s.relayFailed c = s.freeBus := by
  have hattempt : ¬ s.freeBus.setup.attempt = .awaitPoll := ha
  unfold State.relayFailed
  rw [if_pos he, State.relayPollFailed, if_neg hattempt]

/-- Settles O50: the report, and how each operation ends with it. -/
theorem busStuckIsReported : Obligations.BusStuckIsReported := by
  intro s r c hreload hswap hg hu hint hreport clears states freed
  have hexec := exec_reportsStuck ⟨hreload, hswap⟩ hg hreport
  have hquiet : ∀ {t : State}, t.down.upFifo = s.down.upFifo → t.down.intReqs = s.down.intReqs → s.conclude t = t :=
    fun h1 h2 => State.conclude_settled s (.inr ⟨h1.trans hu, h2.trans hint⟩)
  refine ⟨fun ph hr he => ?_, fun i d rs hr hi hh => ?_, fun hr => ?_, fun hr => ?_, fun f hr hp he hf => ?_,
    fun hr hc hs => ?_, fun hr hc hp => ?_, fun hr hc hp hk => ?_, fun f hr hp he hf hh => ?_,
    fun f q hr he hf hcls hh hq => ?_, fun f q hr he hf hcls hh hq => ?_, fun hr he ha => ?_⟩
  all_goals subst hr; rw [hexec]
  · rw [State.failOp, State.halt_eq (s := (s.stuck clears).freeBus) _ he, entryOver_eq, entryOver_eq, hquiet] <;> rfl
  · rw [State.failOp_posted (s := s.stuck clears) _ hi hh, hquiet] <;> rfl
  · rw [State.failOp, State.scanFailed, State.fallback_eq, hquiet] <;> rfl
  · rw [State.failOp, State.fallback_eq, hquiet] <;> rfl
  · rw [State.failOp, State.readFailed_opening (s := s.stuck clears) he hp hf, hquiet] <;> rfl
  · rw [State.failOp, State.loadFailed_configured (s := (s.stuck clears).freeBus) _ hc hs,
      State.rejectReload_eq (s := (s.stuck clears).freeBus) _ hs, entryOver_eq, entryOver_eq, hquiet] <;> rfl
  · rw [State.failOp, State.loadFailed_loading (s := (s.stuck clears).freeBus) _ hc hp, hquiet] <;> rfl
  · have hkept : ¬ (s.stuck clears).freeBus.setup.kept = true := by
      rw [show (s.stuck clears).freeBus.setup.kept = s.setup.kept from rfl, hk]
      nofun
    rw [State.failOp, State.loadFailed_attempt (s := (s.stuck clears).freeBus) _ hc hp, if_neg hkept, hquiet] <;> rfl
  · rw [State.failOp, State.readFailed_streaming (s := s.stuck clears) he hp hf hh, hquiet] <;> rfl
  · obtain ⟨-, hlostB, -⟩ := State.relayLost_eq (s := (s.stuck clears).endPoll) hf
    rw [State.failOp, State.relayFailed_stuck (s := s.stuck clears) he hq (hlostB hcls hh), hquiet] <;> rfl
  · obtain ⟨hlostA, -, -⟩ := State.relayLost_eq (s := (s.stuck clears).endPoll) hf
    rw [State.failOp, State.relayFailed_stuck (s := s.stuck clears) he hq (hlostA hcls hh), hquiet] <;> rfl
  · rw [State.failOp, State.relayFailed_ended (s := s.stuck clears) _ he ha, hquiet] <;> rfl

end Sys2Proof.Machine
end

section
/-! PROOF. What the part shows: the status record and NOTIFYn (sections 6.3 and 12.4; O51), and what the overlay reads
back of a staged run (R33, R40; O55). -/

namespace Sys2Proof.Machine

/-! ## Bits and words of the record -/

/-- One bit of the flags byte holds its flag, and the other flags leave it clear (R116). -/
theorem getLsbD_flagBit (b : Bool) : ∀ i < 8, ∀ j < 8, (flagBit i b).getLsbD j = (b && decide (j = i)) := by
  cases b <;> decide

theorem State.flagsByte_getLsbD (s : State) {j : Nat} (hj : j < 8) :
    s.flagsByte.getLsbD j =
      ((s.window.done && decide (j = 0)) || (s.faultNotice && decide (j = 1)) || (s.window.fwdFail && decide (j = 2))
        || (s.window.setupNotice && decide (j = 3)) || (s.lostNotice && decide (j = 4))
        || (s.reloadPending && decide (j = 5)) || (s.engine.pauseRequested && decide (j = 6))) := by
  have hbit : ∀ i < 8, ∀ b, (flagBit i b).getLsbD j = (b && decide (j = i)) := fun i hi b => getLsbD_flagBit b i hi j hj
  simp only [State.flagsByte, BitVec.getLsbD_or]
  rw [hbit 0 (by decide), hbit 1 (by decide), hbit 2 (by decide), hbit 3 (by decide), hbit 4 (by decide),
    hbit 5 (by decide), hbit 6 (by decide)]

/-- The pairs of bits of four joined (R186). -/
theorem extractLsb_pairs : ∀ a b c d : BitVec 2,
    (a ++ b ++ c ++ d).extractLsb' 0 2 = d ∧ (a ++ b ++ c ++ d).extractLsb' 2 2 = c
      ∧ (a ++ b ++ c ++ d).extractLsb' 4 2 = b ∧ (a ++ b ++ c ++ d).extractLsb' 6 2 = a := by
  decide

theorem State.deviceStatesByte_pair (s : State) {i : Nat} (hi : i < 4) :
    s.deviceStatesByte.extractLsb' (2 * i) 2 = s.devicePair i := by
  obtain ⟨h0, h1, h2, h3⟩ := extractLsb_pairs (s.devicePair 3) (s.devicePair 2) (s.devicePair 1) (s.devicePair 0)
  match i, hi with
  | 0, _ => exact h0
  | 1, _ => exact h1
  | 2, _ => exact h2
  | 3, _ => exact h3

theorem State.sealedTag_of_none {s : State} {i : Nat} (h : s.queue.sealed.length ≤ i) : s.sealedTag i = 0x00 := by
  simp [State.sealedTag, List.getElem?_eq_none h]

theorem State.notifyLow_iff (s : State) :
    s.notifyLow = true ↔
      s.window.done = true ∨ s.engine.state = .halted ∨ s.window.fwdFail = true ∨ s.window.setupNotice = true
        ∨ s.queue.lost = true := by
  simp [State.notifyLow, State.faultNotice, State.lostNotice, or_assoc]

/-- The bytes of the record up to the flags, and the window's (R114). -/
theorem State.statusRecord_bytes (s : State) :
    byteAt s.statusRecord 0 = s.setup.config.code ∧ byteAt s.statusRecord 1 = s.setup.reject.code
      ∧ byteAt s.statusRecord 2 = s.setup.tables.generation ∧ byteAt s.statusRecord 3 = s.engine.state.code
      ∧ byteAt s.statusRecord 4 = s.engine.faultCode.code ∧ byteAt s.statusRecord 5 = s.flagsByte
      ∧ byteAt s.statusRecord 6 = s.window.lastMark ∧ byteAt s.statusRecord 7 = s.window.result.code
      ∧ byteAt s.statusRecord 8 = byteOf s.openEntries.length ∧ byteAt s.statusRecord 9 = byteOf s.queue.sealed.length
      ∧ byteAt s.statusRecord 14 = byteOf s.freeDescriptors ∧ byteAt s.statusRecord 15 = s.window.completion
      ∧ byteAt s.statusRecord 18 = s.journal.lastTag ∧ byteAt s.statusRecord 19 = s.deviceStatesByte
      ∧ byteAt s.statusRecord 20 = s.sealedTag 0 ∧ byteAt s.statusRecord 21 = s.sealedTag 1
      ∧ byteAt s.statusRecord 22 = s.sealedTag 2 ∧ byteAt s.statusRecord 23 = byteOf s.applyProgress
      ∧ byteAt s.statusRecord 28 = indexByte s.window.ffDevice ∧ byteAt s.statusRecord 31 = indexByte s.engine.faultDevice :=
  by
  simp only [State.statusRecord, byteAt, wordBytes, List.cons_append, List.nil_append, List.getD_cons_succ,
    List.getD_cons_zero, and_self]

theorem State.statusRecord_words (s : State) :
    wordAt s.statusRecord 10 = BitVec.ofNat 16 (entriesBytes s.openEntries)
      ∧ wordAt s.statusRecord 12 = BitVec.ofNat 16 s.freePool ∧ wordAt s.statusRecord 16 = s.journal.lastSeq
      ∧ wordAt s.statusRecord 24 = s.journal.nextSeq ∧ wordAt s.statusRecord 26 = BitVec.ofNat 16 s.journal.head
      ∧ wordAt s.statusRecord 29 = s.window.ffAddr :=
  by
  simp only [State.statusRecord, wordAt, byteAt, wordBytes, List.cons_append, List.nil_append, Nat.reduceAdd,
    List.getD_cons_succ, List.getD_cons_zero, wordOf_bytes, and_self]

/-- Settles O51: each byte and word of the record by its owner, and NOTIFYn by the notices. -/
theorem statusRecordShowsTheState : Obligations.StatusRecordShowsTheState := by
  intro s r flag pair
  have hlength : r.length = 32 := s.statusRecord_length
  obtain ⟨hconfig, hreject, hgeneration, hengine, hfault, hflags, hmark, hresult, hentries, hsealed, hfree, hcompletion,
    htag, hstates, htag0, htag1, htag2, hprogress, hff, hdevice⟩ := s.statusRecord_bytes
  obtain ⟨hbytes, hpool, hlast, hnext, hhead, haddr⟩ := s.statusRecord_words
  have hflag : ∀ j, j < 8 → flag j = _ := fun j hj => (congrArg (·.getLsbD j) hflags).trans (s.flagsByte_getLsbD hj)
  have hpair : ∀ i, i < 4 → pair i = s.devicePair i := fun i hi =>
    (congrArg (fun b => b.extractLsb' (2 * i) 2) hstates).trans (s.deviceStatesByte_pair hi)
  have htags : ∀ i, i < 3 → byteAt r (20 + i) = s.sealedTag i := fun i hi =>
    match i, hi with
    | 0, _ => htag0
    | 1, _ => htag1
    | 2, _ => htag2
  refine ⟨hlength, hconfig.trans ?_, hreject.trans ?_, hgeneration, hengine.trans ?_, hfault.trans ?_,
    (hflag 0 (by decide)).trans ?_, (hflag 1 (by decide)).trans ?_, (hflag 2 (by decide)).trans ?_,
    (hflag 3 (by decide)).trans ?_, (hflag 4 (by decide)).trans ?_, (hflag 5 (by decide)).trans ?_,
    (hflag 6 (by decide)).trans ?_, (hflag 7 (by decide)).trans ?_, hmark, hresult.trans ?_,
    fun ho => ⟨hentries.trans ?_, hbytes.trans ?_⟩, fun g ho => ⟨hentries.trans ?_, hbytes.trans ?_⟩, hsealed, hpool,
    hfree, hcompletion, hlast, htag, fun hc => hstates.trans ?_, fun i hi hc hn => (hpair i hi).trans ?_,
    fun i hi hc hn => (hpair i hi).trans ?_, fun i hi hn => (htags i hi).trans (State.sealedTag_of_none hn),
    fun i g tag hi hg ht => (htags i hi).trans ?_, fun hs => hprogress.trans ?_, fun g gs hs => hprogress.trans ?_,
    hnext, hhead, fun hf => hff.trans ?_, fun i hf => hff.trans ?_, haddr, fun hf => hdevice.trans ?_,
    fun i hf => hdevice.trans ?_, s.notifyLow_iff⟩
  · cases s.setup.config <;> rfl
  · cases s.setup.reject <;> rfl
  · rcases s.engine.state with _ | ph | _ | _
    · rfl
    · cases ph <;> rfl
    · rfl
    · rfl
  · cases s.engine.faultCode <;> rfl
  · simp
  · simp [State.faultNotice]
  · simp
  · simp
  · simp [State.lostNotice]
  · simp [State.reloadPending]
  · simp
  · simp
  · cases s.window.result <;> rfl
  · simp [State.openEntries, ho, byteOf]
  · simp [State.openEntries, ho, entriesBytes]
  · simp [State.openEntries, ho, byteOf]
  · simp [State.openEntries, ho, entriesBytes]
  · simp [State.deviceStatesByte, State.devicePair, State.configured, hc]
  · simp only [State.devicePair, State.configured, hc, hn, decide_true, Bool.and_self, if_true]
    cases s.devState i <;> rfl
  · simp [State.devicePair, Nat.not_lt.2 hn]
  · simp [State.sealedTag, hg, Group.tagOrZero, ht]
  · simp [State.applyProgress, hs, byteOf]
  · simp [State.applyProgress, hs, byteOf]
  · rw [hf]; rfl
  · rw [hf]; rfl
  · rw [hf]; rfl
  · rw [hf]; rfl

/-! ## The overlay -/

/-- A run's own entry gives the run's bytes at its addresses, and none elsewhere (R40). -/
theorem byteFor_runEntry (d : Nat) (r : Run) (e a : Nat) :
    Entry.byteFor e a { dev := d, start := r.start, data := r.data } =
      if e = d ∧ r.start.toNat ≤ a ∧ a - r.start.toNat < r.data.length then r.data[a - r.start.toNat]? else none := by
  by_cases hat : d = e ∧ r.start.toNat ≤ a
  · obtain ⟨rfl, hle⟩ := hat
    rw [Entry.byteFor, if_pos ⟨rfl, hle⟩]
    by_cases hlt : a - r.start.toNat < r.data.length
    · rw [if_pos ⟨rfl, hle, hlt⟩]
    · rw [if_neg fun h => hlt h.2.2, List.getElem?_eq_none (Nat.not_lt.1 hlt)]
  · rw [Entry.byteFor, if_neg hat, if_neg fun h => hat ⟨h.1.symm, h.2.1⟩]

/-- Settles O55: a run reads back whether it was written over the newest entry or appended. -/
theorem stagedBytesReadBack : Obligations.StagedBytesReadBack := by
  intro st g d r e a off
  cases hc : coalesceNewest d r g.entries.reverse with
  | some es =>
    rw [takeRun_of_coalesces st hc, Group.byteFor, List.reverse_reverse]
    exact coalesce_byteFor d r _ _ hc e a
  | none =>
    rw [takeRun_of_appends st hc, Group.byteFor, byteFor_append, byteFor_runEntry]
    by_cases hin : e = d ∧ r.start.toNat ≤ a ∧ off < r.data.length
    · rw [if_pos hin, if_pos hin, List.getElem?_eq_getElem hin.2.2]
      rfl
    · rw [if_neg hin, if_neg hin]
      rfl

end Sys2Proof.Machine
end
